-- ==== Sys2Proof/Word.lean ====
section
/-! DEFINITION. The plain word types of the Ajgora 432 and the index types of its ports, locks, route groups and cells. -/

namespace Sys2Proof

/-- A byte of a frame or a record. -/
abbrev Byte := BitVec 8

/-- A field of two bytes: a generation, a message number, a time in milliseconds. -/
abbrev Word16 := BitVec 16

/-- P0 to P3 (00_scope.md, "Names"). -/
abbrev Port := Fin 4

/-- L0 to L31. -/
abbrev LockId := Fin 32

/-- G0 to G3. -/
abbrev GroupId := Fin 4

/-- One of the 64 cells of the message pool (R106). -/
abbrev CellId := Fin 64

/-- A priority, 0 to 3; 3 is the highest (R26, R89). -/
abbrev Prio := Fin 4

end Sys2Proof
end

