-- ==== Sys2Proof/Syntax.lean ====
section
/-! DEFINITION. The commands of the block: one constructor of `Instr` for each row of spec/opcode_table.json. -/

namespace Sys2Proof

/-- The command of a frame with its raw arguments, field by field as 11_formats_codes_and_pins.md lays them out.
No argument is checked here: ranges are checked when the frame is carried out (R175). -/
inductive HostCommand where
  | status
  | openSession (lease : Word16) (priority threshold flags : Byte)
  | close
  | acquire (lock mode wait : Byte) (deadline : Word16)
  | release (lock : Byte) (generation : Word16)
  | cancel (lock : Byte)
  | downgrade (lock : Byte) (generation : Word16)
  | query (lock : Byte)
  | holdings
  | send (dest tag flags : Byte) (payload : List Byte)
  | take
  | peek
  | flush
  | takeNotice
  | setLockAttr (lock shared : Byte) (hold : Word16)
  | setPortLimits (port cap quota sendCap stretch : Byte)
  | bindRoute (group lock guardTime confirmTime : Byte)
  | unbindRoute (group : Byte)
  | clearRouteFault (group : Byte)
  | forceRelease (lock : Byte)
  | expel (port : Byte)
  | restart
  | queryRoute (group : Byte)
  deriving DecidableEq, Repr

/-- A condition on a two-wire bus (R180). A repeated START is a START with no STOP since the last one. -/
inductive BusEvent where
  | start
  | stop
  deriving DecidableEq, Repr

/-- What a host clocks on its bus: after a START and the address byte, unless a write or a read of that kind is open, with which it
goes on; or as it stands, without a new START (R186, R191). -/
inductive Clocked (α : Type) where
  | opened (x : α)
  | resumed (x : α)
  deriving DecidableEq, Repr

/-- What is clocked, however it begins. -/
def Clocked.what {α : Type} : Clocked α → α
  | .opened x | .resumed x => x

/-- The blocks that take new port limits (R154). -/
inductive LimitBlock where
  | session
  | message
  | engine
  deriving DecidableEq, Repr

/-- The blocks that take the second stage of RESTART (R159). The lock table takes it together with the route block. -/
inductive RestartBlock where
  | session
  | lockAndRoute
  | message
  | notice
  deriving DecidableEq, Repr

/-- The blocks that send posts to the notice block (R131, table "Where each kind comes from"). -/
inductive PostSource where
  | lockTable
  | sessionBlock
  | messageBlock
  deriving DecidableEq, Repr

/-- The commands the block takes. `p` is always the port whose host or engine is concerned, `seq` the SEQ byte of a
frame; a frame row is a frame of port `p` with a correct check byte (R162, R163). -/
inductive Instr where
  /-- STATUS (R102). -/
  | status (p : Port) (seq : Byte)
  /-- OPEN (R87). -/
  | openSession (p : Port) (seq : Byte) (lease : Word16) (priority threshold flags : Byte)
  /-- CLOSE (R93). -/
  | close (p : Port) (seq : Byte)
  /-- ACQUIRE (R13). -/
  | acquire (p : Port) (seq lock mode wait : Byte) (deadline : Word16)
  /-- RELEASE (R15). -/
  | release (p : Port) (seq lock : Byte) (generation : Word16)
  /-- CANCEL (R48). -/
  | cancel (p : Port) (seq lock : Byte)
  /-- DOWNGRADE (R17). -/
  | downgrade (p : Port) (seq lock : Byte) (generation : Word16)
  /-- QUERY (R22). -/
  | query (p : Port) (seq lock : Byte)
  /-- HOLDINGS (R23). -/
  | holdings (p : Port) (seq : Byte)
  /-- SEND (R114). The len byte of the frame is the number of payload bytes (log 22). -/
  | send (p : Port) (seq dest tag flags : Byte) (payload : List Byte)
  /-- TAKE (R116). -/
  | take (p : Port) (seq : Byte)
  /-- PEEK (R117). -/
  | peek (p : Port) (seq : Byte)
  /-- FLUSH (R119). -/
  | flush (p : Port) (seq : Byte)
  /-- TAKE_NOTICE (R136). -/
  | takeNotice (p : Port) (seq : Byte)
  /-- SET_LOCK_ATTR (R151). -/
  | setLockAttr (p : Port) (seq lock shared : Byte) (hold : Word16)
  /-- SET_PORT_LIMITS (R154). -/
  | setPortLimits (p : Port) (seq port cap quota sendCap stretch : Byte)
  /-- BIND_ROUTE (R76). -/
  | bindRoute (p : Port) (seq group lock guardTime confirmTime : Byte)
  /-- UNBIND_ROUTE (R77). -/
  | unbindRoute (p : Port) (seq group : Byte)
  /-- CLEAR_ROUTE_FAULT (R78). -/
  | clearRouteFault (p : Port) (seq group : Byte)
  /-- FORCE_RELEASE (R21). -/
  | forceRelease (p : Port) (seq lock : Byte)
  /-- EXPEL (R94). -/
  | expel (p : Port) (seq port : Byte)
  /-- RESTART (R158). -/
  | restart (p : Port) (seq : Byte)
  /-- QUERY_ROUTE (R80). -/
  | queryRoute (p : Port) (seq group : Byte)
  /-- RESTART_SECOND_STAGE (R159): the block that takes it. -/
  | restartSecondStage (block : RestartBlock)
  /-- RESTART_THIRD_STAGE (R160): the order in which the released frames are taken (log 17). -/
  | restartThirdStage (order : List Port)
  /-- RESET (R193): the strap levels at the release (R181). -/
  | reset (as1 as0 : Bool)
  /-- BUS_CONDITION (R183). -/
  | busCondition (p : Port) (event : BusEvent)
  /-- ADDRESS_BYTE (R181). -/
  | addressByte (p : Port) (byte : Byte)
  /-- LINK_REFUSAL (R184, R185): the bytes the host writes, checked as they arrive (log 7). -/
  | linkRefusal (p : Port) (bytes : Clocked (List Byte))
  /-- READ_TRANSACTION (R189): how many bytes the host clocks, and whether it answers the last with NACK (log 8). -/
  | readTransaction (p : Port) (count : Clocked Nat) (nack : Bool)
  /-- BUS_TIMEOUT (R191). -/
  | busTimeout (p : Port)
  /-- HOLD_LIMIT_EXPIRY (R19): the timer of the entry of port `p` at lock `l`. -/
  | holdLimitExpiry (l : LockId) (p : Port)
  /-- DEADLINE_EXPIRY (R47, R41): the timer of the entry of port `p` in the queue of lock `l`. -/
  | deadlineExpiry (l : LockId) (p : Port)
  /-- STRETCH_LIMIT_EXPIRY (R188). -/
  | stretchLimitExpiry (p : Port)
  /-- LIMIT_CLAIM (R42): the claim the engine of port `p` has sent. -/
  | limitClaim (p : Port)
  /-- STRETCH_ENDING (R188): the ending handed to the engine of port `p`. -/
  | stretchEnding (p : Port)
  /-- LEASE_EXPIRY (R91). -/
  | leaseExpiry (p : Port)
  /-- TEARDOWN_HOLDINGS (R97): the first step for port `p`, taken at lock `l`. -/
  | teardownHoldings (p : Port) (l : LockId)
  /-- TEARDOWN_WAITS (R51): the second step for port `p`, taken at lock `l`. -/
  | teardownWaits (p : Port) (l : LockId)
  /-- TEARDOWN_FLUSH (R98). -/
  | teardownFlush (p : Port)
  /-- TEARDOWN_PEER_ENDED (R99). -/
  | teardownPeerEnded (p : Port)
  /-- TEARDOWN_END (R100). -/
  | teardownEnd (p : Port)
  /-- NEW_PORT_LIMITS_TAKEN (R155, R156, R157): one block takes the values that the SET_PORT_LIMITS of `requester` handed on. -/
  | newPortLimitsTaken (requester : Port) (block : LimitBlock)
  /-- NOTICE_POST (R132): the oldest post of one sending block. -/
  | noticePost (source : PostSource)
  /-- BREAK_ORDER (R65). -/
  | breakOrder (g : GroupId)
  /-- MAKE_ORDER (R68). -/
  | makeOrder (g : GroupId)
  /-- GUARD_EXPIRY (R66). -/
  | guardExpiry (g : GroupId)
  /-- FAULT_CLEAR_GUARD_EXPIRY (R79). -/
  | faultClearGuardExpiry (g : GroupId)
  /-- SETTLE_EXPIRY (R69). -/
  | settleExpiry (g : GroupId)
  /-- CONFIRM_EXPIRY (R72). -/
  | confirmExpiry (g : GroupId)
  /-- SENSE_RISE (R70): the SENSE input goes high. -/
  | senseRise (g : GroupId)
  /-- SENSE_FALL (R60): the SENSE input goes low. -/
  | senseFall (g : GroupId)
  /-- SENSE_LOSS (R73): the filtered level falls after 1 ms. -/
  | senseLoss (g : GroupId)
  /-- ROUTE_CLEAR (R67): the report of group `g`, taken at its lock. -/
  | routeClear (g : GroupId)
  /-- ROUTE_MADE (R71). -/
  | routeMade (g : GroupId)
  /-- ROUTE_FAULT (R74). -/
  | routeFault (g : GroupId)
  deriving DecidableEq, Repr

end Sys2Proof
end

