-- ==== Sys2Proof/Decode.lean ====
section
/-! DEFINITION. The command a table word spells. spec/opcode_table.json gives no row any bits ("fixed" and "fields" are
empty for all 56 rows), so no word spells a command (log 25). -/

namespace Sys2Proof

/-- The command that a word of the opcode table spells: none, because no row of the table has bits. -/
def decodeTableWord (_nbits _w : Nat) : Option Instr := none

end Sys2Proof
end

