-- ==== Sys2Proof/Config.lean ====
section
/-! DEFINITION. What the part fixes: its limits, default values and times, and the one free input. -/

namespace Sys2Proof.Config

/-- The settle time in units of 10 µs: the fixed 10 µs of R68. -/
def settleTime : Nat := 1

/-- The SENSE filter of R60: 1 ms. DESIGN CHOICE (log 35): the spec does not say on which time base the filter runs, and the model
counts its 1 ms as 100 units of the 10 µs time base. -/
def senseFilterTime : Nat := 100

/-- How many units of 10 µs make the 1 ms time base (00_scope.md, "Internal Organization"). -/
def unitsPerMs : Nat := 100

/-- The bus timeout of R191 in milliseconds. -/
def busTimeout : Nat := 35

/-- The records a notice queue holds (R130). -/
def noticeCapacity : Nat := 16

/-- The largest payload of a SEND (R111). -/
def maxPayload : Nat := 16

/-- The 7-bit address of a port whose strap value is 0 (R181). -/
def baseAddress : BitVec 7 := 0x3C

/-- Default priority cap (R161). -/
def defaultCap : Prio := 3

/-- Default quota (R161). -/
def defaultQuota : Byte := 16

/-- Default send cap (R161). -/
def defaultSendCap : Byte := 32

/-- Default stretch limit in milliseconds (R161). -/
def defaultStretch : Byte := 20

/-- What a host does with its SCL in one millisecond in which no command comes from it, as the bus-timeout timer sees it
(R191): SCL is high at the end; it is low at the end and has fallen within the millisecond; or it has been low all through. -/
inductive SclLevel where
  | high
  | fell
  | low
  deriving DecidableEq, Repr, Inhabited

/-- FREE VALUE (log 14): what the host of a port does with its SCL in one millisecond. The level is the host's (R191) and no
row of the table reports it. The number is that of the sample, `State.sclSample`. -/
opaque hostScl : Nat → Port → SclLevel

end Sys2Proof.Config
end

