-- ==== Sys2Proof/Machine/State.lean ====
section
/-! DEFINITION. The state of the Ajgora 432: every record the spec gives the eight blocks, the claims in flight
between them, and the queue of the commands that wait. -/

namespace Sys2Proof.Machine

/-! ### Locks (R1 to R5, R26) -/

/-- The mode of a holding (R3). -/
inductive Mode where
  | shared
  | exclusive
  deriving DecidableEq, Repr

/-- The mode a waiter entry asks for (R26). -/
inductive ReqMode where
  | shared
  | exclusive
  | upgrade
  deriving DecidableEq, Repr

/-- The six states of a lock (R2). -/
inductive LockState where
  | free
  | exclusive
  | shared
  | vacating
  | handover
  | faulted
  deriving DecidableEq, Repr

/-- A holder entry (R3). `hold` is the hold remaining in milliseconds, absent when there is no limit. -/
structure Holder where
  port : Port
  mode : Mode
  gen  : Word16
  hold : Option Word16
  deriving DecidableEq, Repr

/-- A waiter entry (R26). `deadline` is the deadline remaining in milliseconds. -/
structure Waiter where
  port     : Port
  req      : ReqMode
  prio     : Prio
  deadline : Option Word16
  blocking : Bool
  epoch    : Byte
  deriving DecidableEq, Repr

/-- A lock record (R1). -/
structure LockRec where
  state         : LockState
  holders       : List Holder
  queue         : List Waiter
  gen           : Word16
  sharedAllowed : Bool
  holdLimit     : Word16
  group         : Option GroupId
  vacatingFrom  : Option Port
  target        : Option Waiter
  deriving DecidableEq, Repr

/-! ### Route groups (R59, R64) -/

/-- The six states of a route group (R61). -/
inductive GroupState where
  | unbound
  | broken
  | breaking
  | making
  | made
  | fault
  deriving DecidableEq, Repr

/-- The one timer of a group (R59): guard and settle in units of 10 µs, confirm in milliseconds. -/
inductive GroupTimer where
  | stopped
  | guardTime (left : Nat)
  | settleTime (left : Nat)
  | confirmTime (left : Nat)
  deriving DecidableEq, Repr

/-- An order from the lock table to a group (R64). -/
inductive Order where
  | breakRoute
  | makeRoute (q : Port)
  deriving DecidableEq, Repr

/-- A report from a group to its bound lock (R64). -/
inductive Report where
  | clear
  | made (q : Port)
  | fault
  deriving DecidableEq, Repr

/-- A group record (R59) with its SENSE filter (R60) and the claims in flight to and from it (R64). -/
structure Group where
  state         : GroupState
  lock          : Option LockId
  guardUnits    : Byte
  confirmMs     : Byte
  select        : Port
  enable        : Bool
  timer         : GroupTimer
  clearing      : Bool
  senseInput    : Bool
  senseFiltered : Bool
  senseTimer    : Option Nat
  orders        : List Order
  reports       : List Report
  deriving DecidableEq, Repr

/-! ### Sessions (R83, R96 to R100) -/

/-- The three states of a session (R84). -/
inductive SessionState where
  | closed
  | opened
  | ending
  deriving DecidableEq, Repr

/-- Why the most recent session of a port ended (R83). -/
inductive EndReason where
  | noReason
  | closed
  | lapsed
  | expelled
  | restart
  deriving DecidableEq, Repr

/-- The five steps of a teardown (R97 to R100). -/
inductive TeardownStep where
  | holdings
  | waits
  | flush
  | peerEnded
  | finish
  deriving DecidableEq, Repr

/-- The step the session block has handed on: bit n of `locks` says that lock Ln has taken it (the first two steps),
`taken` that the one other block has (the rest). -/
structure Teardown where
  step  : TeardownStep
  locks : BitVec 32
  taken : Bool
  deriving DecidableEq, Repr

/-- A session record (R83), the session block's copy of the priority cap (R150), and the teardown step in flight. -/
structure Session where
  state       : SessionState
  epoch       : Byte
  leasePeriod : Word16
  lease       : Word16
  prio        : Prio
  threshold   : Byte
  noticeAttn  : Bool
  endReason   : EndReason
  awaiter     : Option Port
  cap         : Prio
  teardown    : Option Teardown
  deriving DecidableEq, Repr

/-! ### Messages (R106 to R110) -/

/-- A cell in use (R106). Its length is the length of `payload`. -/
structure Cell where
  source    : Port
  epoch     : Byte
  number    : Word16
  tag       : Byte
  receipt   : Bool
  broadcast : Bool
  payload   : List Byte
  refs      : Nat
  deriving DecidableEq, Repr

/-- What the message block keeps for a port: the inbound queue (R108), the message-number counter (R110) and the
copies of the quota and the send cap (R109, R150). -/
structure Inbound where
  queue   : List CellId
  number  : Word16
  quota   : Byte
  sendCap : Byte
  deriving DecidableEq, Repr

/-! ### Notices (R130 to R134) -/

/-- Why a holding was revoked (R131; 11_formats_codes_and_pins.md). -/
inductive RevokeReason where
  | holdLimit
  | forced
  | routeFault
  deriving DecidableEq, Repr

/-- What became of a message (R121). -/
inductive ReceiptOutcome where
  | taken
  | discarded
  deriving DecidableEq, Repr

/-- A notice record: its kind and the fields of that kind (R131). A WAIT_FAILED notice always has reason ROUTE_FAULT. -/
inductive Notice where
  | granted (l : LockId) (mode : Mode) (gen : Word16)
  | waitExpired (l : LockId)
  | waitFailed (l : LockId)
  | revoked (l : LockId) (gen : Word16) (reason : RevokeReason)
  | receipt (dest : Port) (number : Word16) (outcome : ReceiptOutcome)
  | peerOpened (p : Port) (epoch : Byte)
  | peerEnded (p : Port) (epoch : Byte) (reason : EndReason)
  deriving DecidableEq, Repr

/-- A post on its way to the notice block (R132). `cause` names the port whose teardown step sent it: that step ends only
when the post has been taken (R133). -/
structure Post where
  port   : Port
  notice : Notice
  cause  : Option Port
  deriving DecidableEq, Repr

/-- A notice queue with its lost flag (R130, R134). -/
structure NoticeQueue where
  records : List Notice
  lost    : Bool
  deriving DecidableEq, Repr

/-! ### Port engines (R182) -/

/-- The status codes (R177 to R179). -/
inductive Status where
  | ok
  | granted
  | queued
  | pending
  | empty
  | busy
  | held
  | duplicate
  | deadlock
  | stale
  | notHeld
  | notWaiting
  | mode
  | expired
  | routeFault
  | aborted
  | noSession
  | state
  | range
  | notAuthorized
  | seqReused
  | peerAbsent
  | queueFull
  | poolEmpty
  | sendCap
  | noRecord
  | restarted
  deriving DecidableEq, Repr

/-- A response record (R164). LEN is the length of `data`, and CHECK is computed when the record is sent. -/
structure Record where
  status : Status
  echo   : Byte
  data   : List Byte
  deriving DecidableEq, Repr

/-- The six states of a port engine (R182). -/
inductive EngineState where
  | idle
  | receiving
  | executing
  | stretched
  | sending
  | ignoring
  deriving DecidableEq, Repr

/-- An ending of a blocking frame, as the lock table hands it to the engine (R40 to R44). -/
inductive Ending where
  | granted (mode : Mode) (gen : Word16)
  | expired
  | pending
  | routeFault
  | aborted
  deriving DecidableEq, Repr

/-- The values a SET_PORT_LIMITS hands on, and which blocks have taken them (R154). -/
structure LimitsHandover where
  port         : Port
  cap          : Prio
  quota        : Byte
  sendCap      : Byte
  stretch      : Byte
  sessionTaken : Bool
  messageTaken : Bool
  engineTaken  : Bool
  deriving DecidableEq, Repr

/-- What a frame in EXECUTING waits for (R186, table): the end of its port's own teardown, of another port's teardown,
the taking of port limits, the stages of its RESTART; or it is a frame held during another port's RESTART, or a CLOSE
overtaken by a RESTART (R158). -/
inductive ExecWait where
  | nothing
  | ownTeardown
  | teardownOf (q : Port)
  | portLimits (h : LimitsHandover)
  | restartStages
  | heldFrame (cmd : HostCommand)
  | restartEnd
  deriving DecidableEq, Repr

/-- A port engine (R182). `addressed` says whether the address byte of a write has been acknowledged in RECEIVING (R183);
`execSeq` is the kept SEQ (R185); `acked` and `sent` are the model's own view of what the engine drove on SDA (log 9). -/
structure Engine where
  state         : EngineState
  addressed     : Bool
  frame         : List Byte
  expected      : Option Nat
  check         : Byte
  snapshot      : Option (Record × Nat)
  memory        : Option (Byte × Byte)
  resp          : Record
  linkError     : Bool
  busTimer      : Option Nat
  stretchCopy   : Byte
  stretchTimer  : Option Nat
  strap         : BitVec 2
  execSeq       : Byte
  stretchLock   : Option LockId
  wait          : ExecWait
  handed        : Option Ending
  limitClaim    : Option LockId
  abortEndings  : Bool
  stageDeferred : Bool
  acked         : Bool
  sent          : List Byte
  deriving DecidableEq, Repr

/-! ### Configuration (R150, R158) -/

/-- The four limits of a port as the configuration block keeps them (R150). -/
structure PortLimits where
  cap     : Prio
  quota   : Byte
  sendCap : Byte
  stretch : Byte
  deriving DecidableEq, Repr

/-- A RESTART whose first stage has been handed on: the requester, and which blocks have taken the second stage (R158, R159). -/
structure Restart where
  requester    : Port
  sessionTaken : Bool
  lockTaken    : Bool
  messageTaken : Bool
  noticeTaken  : Bool
  deriving DecidableEq, Repr

/-! ### The whole part -/

/-- The part: the records of its blocks, the posts in flight, the time base, and the queue of waiting commands.
`sclSample` is the model's own counter of free samples (log 14) and `pending` its own queue (log 1). -/
structure State where
  engines      : Vector Engine 4
  sessions     : Vector Session 4
  locks        : Vector LockRec 32
  groups       : Vector Group 4
  cells        : Vector (Option Cell) 64
  inbounds     : Vector Inbound 4
  notices      : Vector NoticeQueue 4
  limits       : Vector PortLimits 4
  lockPosts    : List Post
  sessionPosts : List Post
  messagePosts : List Post
  restart      : Option Restart
  msPhase      : Nat
  sclSample    : Nat
  pending      : List Instr
  deriving DecidableEq, Repr

/-- The part never stops with a fault: the spec gives it none. -/
inductive Fault where
  deriving DecidableEq, Repr

/-- The reasons a command has no meaning. -/
inductive Refusal where
  /-- Raised by `exec` for a row that has no meaning yet; safe, because nothing is claimed of it. -/
  | notModelled (mnemonic : String)
  deriving DecidableEq, Repr

/-! ### Values after RESET -/

/-- The NONE record (R172). -/
def Record.noRecord : Record := { status := .noRecord, echo := 0, data := [] }

/-- The RESTARTED record (R172). -/
def Record.restarted : Record := { status := .restarted, echo := 0, data := [] }

/-- A port engine after RESET (R193). The strap value is that of log 11. -/
def Engine.reset : Engine :=
  { state := .idle, addressed := false, frame := [], expected := none, check := 0x00, snapshot := none, memory := none,
    resp := Record.noRecord, linkError := false, busTimer := none, stretchCopy := Config.defaultStretch,
    stretchTimer := none, strap := 0, execSeq := 0, stretchLock := none, wait := .nothing, handed := none,
    limitClaim := none, abortEndings := false, stageDeferred := false, acked := false, sent := [] }

/-- A session record after RESET (R104, R161). -/
def Session.reset : Session :=
  { state := .closed, epoch := 0, leasePeriod := 0, lease := 0, prio := 0, threshold := 0, noticeAttn := false,
    endReason := .noReason, awaiter := none, cap := Config.defaultCap, teardown := none }

/-- A lock record after RESET (R24). -/
def LockRec.reset (l : LockId) : LockRec :=
  { state := .free, holders := [], queue := [], gen := 0, sharedAllowed := decide (l ≠ 0), holdLimit := 0, group := none,
    vacatingFrom := none, target := none }

/-- A group record after RESET (R81, R60). -/
def Group.reset : Group :=
  { state := .unbound, lock := none, guardUnits := 0, confirmMs := 0, select := 0, enable := false, timer := .stopped,
    clearing := false, senseInput := false, senseFiltered := false, senseTimer := none, orders := [], reports := [] }

/-- The message block's record of a port after RESET (R128, R161). -/
def Inbound.reset : Inbound :=
  { queue := [], number := 0, quota := Config.defaultQuota, sendCap := Config.defaultSendCap }

/-- A notice queue after RESET (R145). -/
def NoticeQueue.reset : NoticeQueue := { records := [], lost := false }

/-- The limits of a port after RESET (R161). -/
def PortLimits.reset : PortLimits :=
  { cap := Config.defaultCap, quota := Config.defaultQuota, sendCap := Config.defaultSendCap,
    stretch := Config.defaultStretch }

/-- The part right after RESET, with no command waiting (R24, R81, R104, R128, R145, R161, R193). -/
def State.reset : State :=
  { engines := Vector.replicate 4 Engine.reset
    sessions := Vector.replicate 4 Session.reset
    locks := Vector.ofFn LockRec.reset
    groups := Vector.replicate 4 Group.reset
    cells := Vector.replicate 64 none
    inbounds := Vector.replicate 4 Inbound.reset
    notices := Vector.replicate 4 NoticeQueue.reset
    limits := Vector.replicate 4 PortLimits.reset
    lockPosts := []
    sessionPosts := []
    messagePosts := []
    restart := none
    msPhase := 0
    sclSample := 0
    pending := [] }

end Sys2Proof.Machine
end

