-- ==== Sys2Proof/Machine/Operands.lean ====
section
/-! DEFINITION. Bytes: the check byte, the argument forms, the frame and record layouts and the code tables
(08_frames_sequence_numbers_and_responses.md, 11_formats_codes_and_pins.md). -/

namespace Sys2Proof.Machine

/-! ### Byte order -/

/-- The most significant byte of a two-byte field. -/
def highByte (w : Word16) : Byte := w.extractLsb' 8 8

/-- The least significant byte of a two-byte field. -/
def lowByte (w : Word16) : Byte := w.extractLsb' 0 8

/-- A two-byte field, most significant byte first (00_scope.md, "Numbers"). -/
def wordBytes (w : Word16) : List Byte := [highByte w, lowByte w]

/-- A number as one byte. -/
def natByte (n : Nat) : Byte := BitVec.ofNat 8 n

/-- A yes/no item as a byte: 1 for yes. -/
def boolByte (b : Bool) : Byte := if b then 1 else 0

/-- The byte that stands for "absent" in records. -/
def absentByte : Byte := 0xFF

/-- A port as a byte, 0xFF when absent. -/
def portByte : Option Port → Byte
  | some p => natByte p.val
  | none => absentByte

/-! ### The check byte (R163) -/

/-- One shift of the check register: polynomial x^8+x^2+x+1. -/
def crcShift (r : Byte) : Byte := if r.msb then (r <<< 1) ^^^ 0x07 else r <<< 1

/-- The check register after one more byte: exclusive-or, then eight shifts. -/
def crcStep (r b : Byte) : Byte :=
  crcShift (crcShift (crcShift (crcShift (crcShift (crcShift (crcShift (crcShift (r ^^^ b))))))))

/-- The check byte over a string of bytes, the register starting at 0x00. -/
def crc8 (bytes : List Byte) : Byte := bytes.foldl crcStep 0x00

/-! ### Addresses (R181) -/

/-- The 7-bit address of a port: 0x3C plus the strap value. -/
def portAddress (strap : BitVec 2) : BitVec 7 := Config.baseAddress + strap.setWidth 7

/-- The address byte with its write bit. -/
def writeAddress (strap : BitVec 2) : Byte := portAddress strap ++ 0#1

/-- The address byte with its read bit. -/
def readAddress (strap : BitVec 2) : Byte := portAddress strap ++ 1#1

end Sys2Proof.Machine

namespace Sys2Proof

open Machine

/-! ### Command codes and frame layouts -/

/-- The command code of a frame (11_formats_codes_and_pins.md, "Command Frames"). -/
def HostCommand.code : HostCommand → Byte
  | .status => 0x01
  | .openSession .. => 0x02
  | .close => 0x03
  | .acquire .. => 0x10
  | .release .. => 0x11
  | .cancel .. => 0x12
  | .downgrade .. => 0x13
  | .query .. => 0x14
  | .holdings => 0x15
  | .send .. => 0x20
  | .take => 0x21
  | .peek => 0x22
  | .flush => 0x23
  | .takeNotice => 0x28
  | .setLockAttr .. => 0x30
  | .setPortLimits .. => 0x31
  | .bindRoute .. => 0x32
  | .unbindRoute .. => 0x33
  | .clearRouteFault .. => 0x34
  | .forceRelease .. => 0x35
  | .expel .. => 0x36
  | .restart => 0x37
  | .queryRoute .. => 0x38

/-- The argument bytes of a frame, offset 2 onward, before CHECK. -/
def HostCommand.arguments : HostCommand → List Byte
  | .openSession lease priority threshold flags => wordBytes lease ++ [priority, threshold, flags]
  | .acquire lock mode wait deadline => [lock, mode, wait] ++ wordBytes deadline
  | .release lock generation => lock :: wordBytes generation
  | .cancel lock => [lock]
  | .downgrade lock generation => lock :: wordBytes generation
  | .query lock => [lock]
  | .send dest tag flags payload => [dest, tag, flags, natByte payload.length] ++ payload
  | .setLockAttr lock shared hold => [lock, shared] ++ wordBytes hold
  | .setPortLimits port cap quota sendCap stretch => [port, cap, quota, sendCap, stretch]
  | .bindRoute group lock guardTime confirmTime => [group, lock, guardTime, confirmTime]
  | .unbindRoute group => [group]
  | .clearRouteFault group => [group]
  | .forceRelease lock => [lock]
  | .expel port => [port]
  | .queryRoute group => [group]
  | .status | .close | .holdings | .take | .peek | .flush | .takeNotice | .restart => []

/-- The frame bytes before CHECK: SEQ, CMD and the arguments (R162). -/
def HostCommand.frameBytes (cmd : HostCommand) (seq : Byte) : List Byte := seq :: cmd.code :: cmd.arguments

end Sys2Proof

namespace Sys2Proof.Machine

/-- The frame lengths of R184. -/
inductive FrameLength where
  /-- A fixed number of bytes from SEQ through CHECK. -/
  | fixed (n : Nat)
  /-- SEND: 7 plus its len byte. -/
  | byLen
  deriving DecidableEq, Repr

/-- The length of a frame by its command code; none for a value that is no command code (R184). -/
def frameLength (code : Byte) : Option FrameLength :=
  if code ∈ [0x01, 0x03, 0x15, 0x21, 0x22, 0x23, 0x28, 0x37] then some (.fixed 3)
  else if code ∈ [0x12, 0x14, 0x33, 0x34, 0x35, 0x36, 0x38] then some (.fixed 4)
  else if code ∈ [0x11, 0x13] then some (.fixed 6)
  else if code ∈ [0x30, 0x32] then some (.fixed 7)
  else if code ∈ [0x02, 0x10, 0x31] then some (.fixed 8)
  else if code = 0x20 then some .byLen
  else none

/-! ### Argument forms (R175) -/

/-- A lock argument; none above 31. -/
def lockArg (b : Byte) : Option LockId := if h : b.toNat < 32 then some ⟨b.toNat, h⟩ else none

/-- A port argument; none above 3. -/
def portArg (b : Byte) : Option Port := if h : b.toNat < 4 then some ⟨b.toNat, h⟩ else none

/-- A group argument; none above 3. -/
def groupArg (b : Byte) : Option GroupId := if h : b.toNat < 4 then some ⟨b.toNat, h⟩ else none

/-- A priority or priority-cap argument; none above 3. -/
def prioArg (b : Byte) : Option Prio := if h : b.toNat < 4 then some ⟨b.toNat, h⟩ else none

/-- The mode of an ACQUIRE; none for a value that names no mode (R8). -/
def modeArg (b : Byte) : Option Mode := if b = 0 then some .shared else if b = 1 then some .exclusive else none

/-- The wait modes of ACQUIRE (R37 to R39). -/
inductive WaitMode where
  | tryNow
  | queue
  | block
  deriving DecidableEq, Repr

/-- The wait argument of ACQUIRE; none for a value that names no wait mode (R8). -/
def waitArg (b : Byte) : Option WaitMode :=
  if b = 0 then some .tryNow else if b = 1 then some .queue else if b = 2 then some .block else none

/-- An argument that is 0 for no and 1 for yes; none for any other value. -/
def boolArg (b : Byte) : Option Bool := if b = 0 then some false else if b = 1 then some true else none

/-- A quantity between two bounds. -/
def within (lo hi : Nat) (n : Nat) : Bool := decide (lo ≤ n) && decide (n ≤ hi)

/-! ### Code tables -/

/-- The value of a status code (11_formats_codes_and_pins.md, "Status Codes"). -/
def Status.code : Status → Byte
  | .ok => 0x00
  | .granted => 0x01
  | .queued => 0x02
  | .pending => 0x03
  | .empty => 0x04
  | .busy => 0x10
  | .held => 0x11
  | .duplicate => 0x12
  | .deadlock => 0x13
  | .stale => 0x14
  | .notHeld => 0x15
  | .notWaiting => 0x16
  | .mode => 0x17
  | .expired => 0x18
  | .routeFault => 0x19
  | .aborted => 0x1A
  | .noSession => 0x20
  | .state => 0x21
  | .range => 0x22
  | .notAuthorized => 0x23
  | .seqReused => 0x24
  | .peerAbsent => 0x30
  | .queueFull => 0x31
  | .poolEmpty => 0x32
  | .sendCap => 0x33
  | .noRecord => 0xF0
  | .restarted => 0xF1

/-- Mode values ("Enumerated Values"). -/
def Mode.code : Mode → Byte
  | .shared => 0
  | .exclusive => 1

/-- Lock state values. -/
def LockState.code : LockState → Byte
  | .free => 0
  | .exclusive => 1
  | .shared => 2
  | .vacating => 3
  | .handover => 4
  | .faulted => 5

/-- Group state values. -/
def GroupState.code : GroupState → Byte
  | .unbound => 0
  | .broken => 1
  | .breaking => 2
  | .making => 3
  | .made => 4
  | .fault => 5

/-- Session state values. -/
def SessionState.code : SessionState → Byte
  | .closed => 0
  | .opened => 1
  | .ending => 2

/-- End reason values. -/
def EndReason.code : EndReason → Byte
  | .noReason => 0
  | .closed => 1
  | .lapsed => 2
  | .expelled => 3
  | .restart => 4

/-- REVOKED reason values; a WAIT_FAILED notice carries that of ROUTE_FAULT. -/
def RevokeReason.code : RevokeReason → Byte
  | .holdLimit => 1
  | .forced => 2
  | .routeFault => 3

/-- RECEIPT outcome values. -/
def ReceiptOutcome.code : ReceiptOutcome → Byte
  | .taken => 0
  | .discarded => 1

/-- A notice record, five bytes; bytes that a kind does not use are 0x00 ("Notice Records"). -/
def Notice.bytes : Notice → List Byte
  | .granted l mode gen => [0x01, natByte l.val, mode.code, highByte gen, lowByte gen]
  | .waitExpired l => [0x02, natByte l.val, 0, 0, 0]
  | .waitFailed l => [0x03, natByte l.val, RevokeReason.routeFault.code, 0, 0]
  | .revoked l gen reason => [0x04, natByte l.val, highByte gen, lowByte gen, reason.code]
  | .receipt dest number outcome => [0x05, natByte dest.val, highByte number, lowByte number, outcome.code]
  | .peerOpened p epoch => [0x06, natByte p.val, epoch, 0, 0]
  | .peerEnded p epoch reason => [0x07, natByte p.val, epoch, reason.code, 0]

/-! ### Records (R164) -/

/-- The bytes of a record before CHECK. -/
def Record.body (r : Record) : List Byte := [r.status.code, r.echo, natByte r.data.length] ++ r.data

/-- The bytes of a record as a port with this strap value sends them, CHECK last. -/
def Record.bytes (strap : BitVec 2) (r : Record) : List Byte := r.body ++ [crc8 (readAddress strap :: r.body)]

/-- The byte at a position of a read: 0xFF past CHECK (R189). -/
def Record.byteAt (strap : BitVec 2) (r : Record) (i : Nat) : Byte := (r.bytes strap).getD i 0xFF

/-! ### Sets ("Sets") -/

/-- A lock set: bit n stands for lock Ln. -/
def lockSet (f : LockId → Bool) : BitVec 32 := BitVec.ofFnLE f

/-- The four bytes of a lock set, most significant first. -/
def lockSetBytes (s : BitVec 32) : List Byte :=
  [s.extractLsb' 24 8, s.extractLsb' 16 8, s.extractLsb' 8 8, s.extractLsb' 0 8]

/-- A port set in one byte: bit n stands for port Pn, bits 7 to 4 are 0. -/
def portSetByte (f : Port → Bool) : Byte := (BitVec.ofFnLE f).setWidth 8

end Sys2Proof.Machine
end

