-- ==== Sys2Proof/Machine/Flags.lean ====
section
/-! DEFINITION. The flags and output lines the part derives from its records: flag bytes of responses, EN, SEL, SCL. -/

namespace Sys2Proof.Machine

/-- The flags byte of STATUS data: bit 0 lost flag, bit 1 link-error flag (11_formats_codes_and_pins.md). -/
def statusFlags (lost linkError : Bool) : Byte := boolByte lost ||| (boolByte linkError <<< 1)

/-- The flags byte of a TAKE or PEEK record: bit 0 receipt requested, bit 1 broadcast. -/
def messageFlags (receipt broadcast : Bool) : Byte := boolByte receipt ||| (boolByte broadcast <<< 1)

/-- The flags byte of a TAKE_NOTICE response: lost flag in bit 7, remaining count in bits 3 to 0 (R135). -/
def noticeFlags (lost : Bool) (remaining : Nat) : Byte := (boolByte lost <<< 7) ||| (natByte remaining &&& 0x0F)

/-- The lines byte of QUERY_ROUTE: bit 0 EN, bit 1 filtered SENSE, bit 2 clearing. -/
def Group.linesByte (g : Group) : Byte :=
  boolByte g.enable ||| (boolByte g.senseFiltered <<< 1) ||| (boolByte g.clearing <<< 2)

/-- The EN output of a group follows its enable field (R58). -/
def Group.enLine (g : Group) : Bool := g.enable

/-- The SEL1 and SEL0 outputs of a group follow its select value, SEL1 the high-order bit (R58). -/
def Group.selLines (g : Group) : Bool × Bool := (decide (2 ≤ g.select.val), decide (g.select.val % 2 = 1))

/-- The engine holds SCL low in EXECUTING and STRETCHED and in no other state (R182, table). -/
def Engine.holdsScl (e : Engine) : Bool :=
  match e.state with
  | .executing | .stretched => true
  | .idle | .receiving | .sending | .ignoring => false

/-- The next generation of a lock: 65535 is followed by 1 (R4). -/
def nextGen (g : Word16) : Word16 := if g = 0xFFFF then 1 else g + 1

/-- The next epoch of a session: 255 is followed by 1 (R85). -/
def nextEpoch (e : Byte) : Byte := if e = 0xFF then 1 else e + 1

/-- The next message number of a port: 65535 is followed by 1 (R110). -/
def nextNumber (n : Word16) : Word16 := if n = 0xFFFF then 1 else n + 1

/-- The conditions of the ATTN line of R139, on the records of the three blocks. -/
def attnCondition (session : Session) (inbound : Inbound) (notices : NoticeQueue) : Bool :=
  decide (session.state = .opened) &&
    ((session.noticeAttn && !notices.records.isEmpty) ||
     (decide (session.threshold ≠ 0) && decide (session.threshold.toNat ≤ inbound.queue.length)) ||
     notices.lost)

end Sys2Proof.Machine
end

