-- ==== Sys2Proof/Machine/Ops.lean ====
section
/-! DEFINITION. The named operations on the records of State that the meanings share: reading and writing one record,
sending a claim, storing a response, and the two guards. -/

namespace Sys2Proof.Machine

/-! ### Records by index -/

def State.engine (s : State) (p : Port) : Engine := s.engines[p]
def State.session (s : State) (p : Port) : Session := s.sessions[p]
def State.lock (s : State) (l : LockId) : LockRec := s.locks[l]
def State.group (s : State) (g : GroupId) : Group := s.groups[g]
def State.cell (s : State) (c : CellId) : Option Cell := s.cells[c]
def State.inbound (s : State) (p : Port) : Inbound := s.inbounds[p]
def State.noticeQueue (s : State) (p : Port) : NoticeQueue := s.notices[p]
def State.limit (s : State) (p : Port) : PortLimits := s.limits[p]

def State.setEngine (s : State) (p : Port) (e : Engine) : State := { s with engines := s.engines.set p e }
def State.setSession (s : State) (p : Port) (x : Session) : State := { s with sessions := s.sessions.set p x }
def State.setLock (s : State) (l : LockId) (x : LockRec) : State := { s with locks := s.locks.set l x }
def State.setGroup (s : State) (g : GroupId) (x : Group) : State := { s with groups := s.groups.set g x }
def State.setCell (s : State) (c : CellId) (x : Option Cell) : State := { s with cells := s.cells.set c x }
def State.setInbound (s : State) (p : Port) (x : Inbound) : State := { s with inbounds := s.inbounds.set p x }
def State.setNoticeQueue (s : State) (p : Port) (x : NoticeQueue) : State := { s with notices := s.notices.set p x }
def State.setLimit (s : State) (p : Port) (x : PortLimits) : State := { s with limits := s.limits.set p x }

/-- All ports, all locks, all groups and all cells, in ascending order. -/
def allPorts : List Port := List.finRange 4
def allLocks : List LockId := List.finRange 32
def allGroups : List GroupId := List.finRange 4
def allCells : List CellId := List.finRange 64

/-! ### Guards and authority -/

/-- The port's session is OPEN with this epoch: the guard of R44, R50 and R121. -/
def State.sessionIs (s : State) (p : Port) (epoch : Byte) : Bool :=
  decide ((s.session p).state = .opened) && decide ((s.session p).epoch = epoch)

/-- The port holds L0 EXCLUSIVE: it has configuration authority (R147). -/
def State.hasAuthority (s : State) (p : Port) : Bool :=
  (s.lock 0).holders.any fun h => decide (h.port = p) && decide (h.mode = .exclusive)

/-- The port that holds L0 EXCLUSIVE (R102). -/
def State.authorityHolder (s : State) : Option Port := allPorts.find? s.hasAuthority

/-- The notice block has taken a RESTART that has not yet ended: it drops every post, and every ATTN line is deasserted (R146). -/
def State.noticesCleared (s : State) : Bool :=
  match s.restart with
  | some r => r.noticeTaken
  | none => false

/-- The ATTN line of a port is asserted (R139). The notice block's arrival of a RESTART deasserts it, whatever the session and the
message block hold until they have taken the RESTART themselves (R146, R159; log 34). -/
def State.attn (s : State) (p : Port) : Bool :=
  !s.noticesCleared && attnCondition (s.session p) (s.inbound p) (s.noticeQueue p)

/-! ### Claims between blocks -/

/-- The lock table sends a post (R132). -/
def State.postFromLocks (s : State) (p : Port) (n : Notice) (cause : Option Port) : State :=
  { s with lockPosts := s.lockPosts ++ [{ port := p, notice := n, cause := cause }] }

/-- The session block sends a post. -/
def State.postFromSessions (s : State) (p : Port) (n : Notice) (cause : Option Port) : State :=
  { s with sessionPosts := s.sessionPosts ++ [{ port := p, notice := n, cause := cause }] }

/-- The message block sends a post. -/
def State.postFromMessages (s : State) (p : Port) (n : Notice) (cause : Option Port) : State :=
  { s with messagePosts := s.messagePosts ++ [{ port := p, notice := n, cause := cause }] }

/-- The lock table posts a notice about a waiter entry, under the guard of R50: only if the port's session is OPEN with
the entry's epoch. -/
def State.postGuarded (s : State) (w : Waiter) (n : Notice) (cause : Option Port) : State :=
  if s.sessionIs w.port w.epoch then s.postFromLocks w.port n cause else s

/-- The post of this notice goes under a guard: the session of its port is OPEN with the epoch recorded for it (R50, R121). -/
def Notice.guarded : Notice → Bool
  | .granted _ _ _ | .waitExpired _ | .waitFailed _ | .receipt _ _ _ => true
  | .revoked _ _ _ | .peerOpened _ _ | .peerEnded _ _ _ => false

/-- Posts in flight without those that passed the guard of a session that has ended: no host reads them any more, and no later
session of their port gets them (R126, R138; log 33). -/
def withoutEnded (ended : Port → Bool) (posts : List Post) : List Post :=
  posts.filter fun x => !(x.notice.guarded && ended x.port)

/-- The sessions of some ports have ended: the guarded posts of the lock table and the message block to them are discarded. -/
def State.discardPosts (s : State) (ended : Port → Bool) : State :=
  { s with lockPosts := withoutEnded ended s.lockPosts, messagePosts := withoutEnded ended s.messagePosts }

/-- The lock table sends an order to the group the lock is bound to (R64). -/
def State.sendOrder (s : State) (l : LockId) (o : Order) : State :=
  match (s.lock l).group with
  | some g => s.setGroup g { s.group g with orders := (s.group g).orders ++ [o] }
  | none => s

/-- A group sends a report to its bound lock (R64). -/
def Group.sendReport (g : Group) (r : Report) : Group := { g with reports := g.reports ++ [r] }

/-- The lock table hands an ending to a port engine. The engine stores the first one it receives (R42). -/
def State.handEnding (s : State) (p : Port) (e : Ending) : State :=
  s.setEngine p { s.engine p with handed := (s.engine p).handed <|> some e }

/-- The session guard of R44: an ending for a session that is not OPEN with the entry's epoch is handed as ABORTED. -/
def State.endStretch (s : State) (w : Waiter) (e : Ending) : State :=
  s.handEnding w.port (if s.sessionIs w.port w.epoch then e else .aborted)

/-! ### Responses (R169, R170) -/

/-- The first stage of a RESTART from another port, taken at an engine according to its state (R158, table). An engine that
waits in EXECUTING for an accepted EXPEL or SET_PORT_LIMITS takes it once its response is stored (log 16). -/
def Engine.takeFirstStage (e : Engine) : Engine :=
  match e.state, e.wait with
  | .stretched, _ => { e with memory := none, abortEndings := true }
  | .executing, .ownTeardown => { e with memory := none, resp := Record.restarted, wait := .restartEnd }
  | .executing, .teardownOf _ => { e with stageDeferred := true }
  | .executing, .portLimits _ => { e with stageDeferred := true }
  | _, _ => { e with memory := none, resp := Record.restarted }

/-- The engine leaves EXECUTING: it releases SCL and enters IGNORING (R186). The bus-timeout timer is loaded at the release
(R191, log 14). A deferred first stage of RESTART is taken now (R158). -/
def Engine.leaveExecuting (e : Engine) : Engine :=
  let e := { e with state := .ignoring, wait := .nothing, busTimer := some Config.busTimeout }
  if e.stageDeferred then { e.takeFirstStage with stageDeferred := false } else e

/-- The engine stores the record of the frame in EXECUTING, with the kept SEQ as echo, and leaves EXECUTING (R170, R186). -/
def Engine.respond (e : Engine) (st : Status) (data : List Byte) : Engine :=
  ({ e with resp := { status := st, echo := e.execSeq, data := data } } : Engine).leaveExecuting

/-- The response of the frame that port `p` has in EXECUTING. -/
def State.respond (s : State) (p : Port) (st : Status) (data : List Byte) : State :=
  s.setEngine p ((s.engine p).respond st data)

/-- A refusal: LEN 0 and nothing else changes (R176). -/
def State.refuse (s : State) (p : Port) (st : Status) : State := s.respond p st []

end Sys2Proof.Machine
end

