-- ==== Sys2Proof/Machine/Link.lean ====
section
/-! DEFINITION. The two-wire link: bus conditions, the address byte, frame bytes, reads and the bus timeout
(09_two_wire_target_ports.md). -/

namespace Sys2Proof.Machine

/-! ### Bus conditions (R183) -/

/-- The incomplete frame of a write, if any, is discarded with the link-error flag set; without a frame byte there is no
other effect (R183). -/
def Engine.dropPartialFrame (e : Engine) : Engine :=
  { e with addressed := false, frame := [], expected := none, linkError := e.linkError || !e.frame.isEmpty }

/-- A START or repeated START at an engine (R183). Nothing can be seen while the engine holds SCL (R180). SCL falls after the
condition, and this fall loads the bus-timeout timer (R191; log 14). -/
def Engine.takeStart (e : Engine) : Engine :=
  match e.state with
  | .executing | .stretched => e
  | .idle | .ignoring =>
    { e with state := .receiving, addressed := false, frame := [], expected := none, busTimer := some Config.busTimeout }
  | .receiving => { e.dropPartialFrame with busTimer := some Config.busTimeout }
  | .sending =>
    { e with state := .receiving, addressed := false, frame := [], expected := none, snapshot := none,
             busTimer := some Config.busTimeout }

/-- A STOP at an engine (R183). -/
def Engine.takeStop (e : Engine) : Engine :=
  match e.state with
  | .executing | .stretched | .idle => e
  | .receiving => { e.dropPartialFrame with state := .idle, busTimer := none }
  | .sending => { e with state := .idle, snapshot := none, busTimer := none }
  | .ignoring => { e with state := .idle, busTimer := none }

/-- BUS_CONDITION (R183). -/
def execBusCondition (p : Port) (event : BusEvent) (s : State) : Host.Outcome State Fault Refusal :=
  match event with
  | .start => .next (s.setEngine p (s.engine p).takeStart)
  | .stop => .next (s.setEngine p (s.engine p).takeStop)

/-! ### Bytes that the engine lets pass (R184, R186, R191) -/

/-- A byte written at an engine in IDLE or IGNORING: the engine drives nothing, so the byte is answered NACK, sets no flag and has
no effect (R186, R191). In IGNORING the falls of SCL in it load the bus-timeout timer (R191). -/
def Engine.passByte (e : Engine) : Engine :=
  match e.state with
  | .ignoring => { e with acked := false, busTimer := some Config.busTimeout }
  | .idle => { e with acked := false }
  | .receiving | .executing | .stretched | .sending => e

/-! ### The address byte (R181, R184, R189) -/

/-- The first byte after a START. The write address opens a frame with the check register run over that byte (R184); the
read address takes the snapshot (R189); any other byte sends the engine to IGNORING, without the link-error flag (R181). -/
def Engine.takeAddress (e : Engine) (b : Byte) : Engine :=
  if e.state = .receiving ∧ e.addressed = false then
    if b = writeAddress e.strap then
      { e with addressed := true, frame := [], expected := none, check := crcStep 0x00 b, acked := true,
               busTimer := some Config.busTimeout }
    else if b = readAddress e.strap then
      { e with state := .sending, snapshot := some (e.resp, 0), sent := [], acked := true,
               busTimer := some Config.busTimeout }
    else
      { e with state := .ignoring, acked := false, busTimer := some Config.busTimeout }
  else e.passByte

/-- ADDRESS_BYTE (R181). In IDLE and IGNORING no address is awaited and the byte is answered NACK (R186, R191); an engine in a write
or a read takes no address byte (log 5). -/
def execAddressByte (p : Port) (byte : Byte) (s : State) : Host.Outcome State Fault Refusal :=
  .next (s.setEngine p ((s.engine p).takeAddress byte))

/-! ### Frame bytes (R184, R185) -/

/-- An acknowledged frame byte joins the frame buffer and the check register (R184). -/
def Engine.acceptByte (e : Engine) (b : Byte) (expected : Option Nat) : Engine :=
  { e with frame := e.frame ++ [b], expected := expected, check := crcStep e.check b, acked := true,
           busTimer := some Config.busTimeout }

/-- A byte that is not acknowledged discards the frame, sets the link-error flag and sends the engine to IGNORING (R184,
R185). -/
def Engine.refuseByte (e : Engine) : Engine :=
  { e with state := .ignoring, addressed := false, frame := [], expected := none, linkError := true, acked := false,
           busTimer := some Config.busTimeout }

/-- The byte is the correct CHECK byte of the frame that is open (R185). -/
def Engine.completes (e : Engine) (b : Byte) : Bool :=
  decide (e.state = .receiving ∧ e.addressed = true ∧ e.expected = some (e.frame.length + 1) ∧ b = e.check)

/-- One frame byte at an engine that receives a write. The byte at the expected length is CHECK, and here a wrong one (R185). The
second byte is CMD and the sixth of a SEND is len (R184); every other byte is acknowledged. -/
def Engine.takeFrameByte (e : Engine) (b : Byte) : Engine :=
  if e.expected = some (e.frame.length + 1) then e.refuseByte
  else if e.frame.length = 1 then
    match frameLength b with
    | some (.fixed n) => e.acceptByte b (some n)
    | some .byLen => e.acceptByte b none
    | none => e.refuseByte
  else if e.frame.length = 5 ∧ e.frame[1]? = some 0x20 then
    if b.toNat ≤ Config.maxPayload then e.acceptByte b (some (7 + b.toNat)) else e.refuseByte
  else e.acceptByte b e.expected

/-- One byte that the host writes, whatever the engine is doing: a frame byte in an open write, else an address byte or one that
passes. -/
def Engine.takeByte (e : Engine) (b : Byte) : Engine :=
  if e.state = .receiving ∧ e.addressed = true then e.takeFrameByte b else e.takeAddress b

/-- The bytes of a write, taken in the order they travel, up to the correct CHECK byte of a frame: that byte, and what follows it,
is left to the step of the frame's own command (log 7). -/
def Engine.takeBytes (e : Engine) : List Byte → Engine
  | [] => e
  | b :: bytes => if e.completes b = true then e else (e.takeByte b).takeBytes bytes

/-- The engine is ready for frame bytes: in the write that is open, or after a START and the write address (log 5). -/
def Engine.openWrite (e : Engine) : Engine :=
  if e.state = .receiving ∧ e.addressed = true then e
  else e.takeStart.takeAddress (writeAddress e.strap)

/-- LINK_REFUSAL (R184, R185): the host writes bytes, and the engine refuses the first bad one. A host that resumes a write without
a new START finds an engine in IDLE or IGNORING, which answers NACK to every byte (R186, R191). -/
def execLinkRefusal (p : Port) (bytes : Clocked (List Byte)) (s : State) : Host.Outcome State Fault Refusal :=
  match bytes with
  | .opened written => .next (s.setEngine p ((s.engine p).openWrite.takeBytes written))
  | .resumed written => .next (s.setEngine p ((s.engine p).takeBytes written))

/-! ### Reads (R189) -/

/-- The host clocks one more byte. In SENDING it is the next byte of the record, past CHECK 0xFF (R189). In IDLE and IGNORING nothing
drives SDA, and the host reads 0xFF (R191). -/
def Engine.sendByte (e : Engine) : Engine :=
  match e.snapshot with
  | some (r, i) => { e with snapshot := some (r, i + 1), sent := e.sent ++ [r.byteAt e.strap i],
                            busTimer := some Config.busTimeout }
  | none =>
    match e.state with
    | .ignoring => { e with sent := e.sent ++ [0xFF], busTimer := some Config.busTimeout }
    | .idle => { e with sent := e.sent ++ [0xFF] }
    | .receiving | .executing | .stretched | .sending => e

/-- The host clocks `count` bytes. -/
def Engine.sendBytes (e : Engine) : Nat → Engine
  | 0 => e
  | n + 1 => (e.sendByte).sendBytes n

/-- The engine is sending: in the read in progress, or after a START and the read address (log 8). -/
def Engine.openRead (e : Engine) : Engine :=
  if e.state = .sending then e else e.takeStart.takeAddress (readAddress e.strap)

/-- A NACK from the host ends the read: the snapshot is dropped and the engine enters IGNORING (R189). Outside SENDING it ends
nothing. -/
def Engine.endRead (e : Engine) : Engine := if e.state = .sending then { e with state := .ignoring, snapshot := none } else e

/-- READ_TRANSACTION (R189). While the engine holds SCL no read can be made (R180). -/
def execReadTransaction (p : Port) (count : Clocked Nat) (nack : Bool) (s : State) : Host.Outcome State Fault Refusal :=
  if (s.engine p).holdsScl then .next s
  else
    let e := match count with
      | .opened n => (s.engine p).openRead.sendBytes n
      | .resumed n => (s.engine p).sendBytes n
    .next (s.setEngine p (if nack then e.endRead else e))

/-! ### The bus timeout (R191) -/

/-- The host has held SCL low for 35 ms: the transaction is abandoned (R191, table). -/
def Engine.takeTimeout (e : Engine) : Engine :=
  match e.state with
  | .receiving =>
    { e with state := .idle, addressed := false, frame := [], expected := none, linkError := true, busTimer := none }
  | .sending => { e with state := .idle, snapshot := none, linkError := true, busTimer := none }
  | .ignoring => { e with state := .idle, busTimer := none }
  | .idle | .executing | .stretched => e

/-- BUS_TIMEOUT (R191). A stopped timer does not expire (log 3); a running one expires with any time left (log 12). -/
def execBusTimeout (p : Port) (s : State) : Host.Outcome State Fault Refusal :=
  if (s.engine p).busTimer.isSome = true then .next (s.setEngine p (s.engine p).takeTimeout) else .next s

end Sys2Proof.Machine
end

