-- ==== Sys2Proof/Machine/Frames.lean ====
section
/-! DEFINITION. A complete frame: the link, the renewal of the lease, the repeat step, the session step and the authority
step, in the order of R173. The checks and effects of each command are handed in as `carry`. -/

namespace Sys2Proof

open Machine

/-- The session step of a command (R174): STATUS, OPEN, QUERY and QUERY_ROUTE pass in every state, CLOSE in CLOSED and OPEN,
every other command in OPEN. -/
def HostCommand.passesSession (cmd : HostCommand) (st : SessionState) : Bool :=
  match cmd with
  | .status | .openSession .. | .query .. | .queryRoute .. => true
  | .close => decide (st ≠ .ending)
  | .acquire .. | .release .. | .cancel .. | .downgrade .. | .holdings | .send .. | .take | .peek | .flush | .takeNotice
  | .setLockAttr .. | .setPortLimits .. | .bindRoute .. | .unbindRoute .. | .clearRouteFault .. | .forceRelease ..
  | .expel .. | .restart => decide (st = .opened)

/-- The eight configuration commands (R148). -/
def HostCommand.isConfiguration : HostCommand → Bool
  | .setLockAttr .. | .setPortLimits .. | .bindRoute .. | .unbindRoute .. | .clearRouteFault .. | .forceRelease ..
  | .expel .. | .restart => true
  | .status | .openSession .. | .close | .acquire .. | .release .. | .cancel .. | .downgrade .. | .query .. | .holdings
  | .send .. | .take | .peek | .flush | .takeNotice | .queryRoute .. => false

/-- The link acknowledges the len byte: a SEND carries at most 16 payload bytes (R111, R184). -/
def HostCommand.lenAccepted : HostCommand → Bool
  | .send _ _ _ payload => decide (payload.length ≤ Config.maxPayload)
  | .status | .openSession .. | .close | .acquire .. | .release .. | .cancel .. | .downgrade .. | .query .. | .holdings
  | .take | .peek | .flush | .takeNotice | .setLockAttr .. | .setPortLimits .. | .bindRoute .. | .unbindRoute ..
  | .clearRouteFault .. | .forceRelease .. | .expel .. | .restart | .queryRoute .. => true

end Sys2Proof

namespace Sys2Proof.Machine

/-- The renewal of the lease of an OPEN session (R90). -/
def State.renewLease (s : State) (p : Port) : State :=
  let x := s.session p
  if x.state = .opened then s.setSession p { x with lease := x.leasePeriod } else s

/-- The session step and the authority step; then the command's own arguments and checks (R173, steps 3 to 6). -/
def sessionAndAuthority (p : Port) (cmd : HostCommand) (carry : State → State) (s : State) : State :=
  if cmd.passesSession (s.session p).state = false then s.refuse p .noSession
  else if cmd.isConfiguration = true ∧ s.hasAuthority p = false then s.refuse p .notAuthorized
  else carry s

/-- The memory takes the SEQ and CMD of a frame that is not a repeat (R165). -/
def State.remember (s : State) (p : Port) (cmd : HostCommand) : State :=
  s.setEngine p { s.engine p with memory := some ((s.engine p).execSeq, cmd.code) }

/-- The repeat step (R166) of the frame in EXECUTING, and what follows it for a new frame. -/
def repeatStep (p : Port) (cmd : HostCommand) (carry : State → State) (s : State) : State :=
  match (s.engine p).memory with
  | some (lastSeq, lastCmd) =>
    if lastSeq = (s.engine p).execSeq then
      if lastCmd = cmd.code then s.setEngine p (s.engine p).leaveExecuting
      else s.respond p .seqReused []
    else sessionAndAuthority p cmd carry (s.remember p cmd)
  | none => sessionAndAuthority p cmd carry (s.remember p cmd)

/-- The engine ready for this frame: it goes on with the write that is open when the bytes received so far begin the frame;
otherwise a START and the write address come first (log 5). -/
def Engine.openFrame (e : Engine) (bytes : List Byte) : Engine :=
  if e.state = .receiving ∧ e.addressed = true ∧ e.frame.isPrefixOf bytes = true then e
  else e.takeStart.takeAddress (writeAddress e.strap)

/-- The frame is complete: the engine holds SCL, enters EXECUTING, empties the frame buffer and keeps the SEQ (R185). -/
def Engine.completeFrame (e : Engine) (seq : Byte) : Engine :=
  { e with state := .executing, addressed := false, frame := [], expected := none, check := 0x00, execSeq := seq,
           wait := .nothing, acked := true, busTimer := none }

/-- A RESTART from another port is in progress: frames that complete at this port are held (R158). -/
def State.holdsFrames (s : State) (p : Port) : Bool :=
  match s.restart with
  | some r => decide (r.requester ≠ p)
  | none => false

/-- The frame is held in EXECUTING until the third stage (R158). -/
def State.holdFrame (s : State) (p : Port) (cmd : HostCommand) : State :=
  s.setEngine p { s.engine p with wait := .heldFrame cmd }

/-- A frame of port `p` with a correct check byte. While the engine holds SCL no frame can be written (R180). A SEND whose len
is above 16 is refused at its len byte (R184). A frame during another port's RESTART is held (R158); every other frame
renews the lease and goes to the repeat step (R173). -/
def runFrame (p : Port) (seq : Byte) (cmd : HostCommand) (carry : State → State) (s : State) : State :=
  if (s.engine p).holdsScl = true then s
  else if cmd.lenAccepted = true then
    let s' := s.setEngine p (((s.engine p).openFrame (cmd.frameBytes seq)).completeFrame seq)
    if s.holdsFrames p = true then s'.holdFrame p cmd
    else repeatStep p cmd carry (s'.renewLease p)
  else
    let e := (s.engine p).openFrame (cmd.frameBytes seq)
    s.setEngine p (e.takeBytes ((cmd.frameBytes seq).drop e.frame.length))

end Sys2Proof.Machine
end

