-- ==== Sys2Proof/Machine/LockTable.lean ====
section
/-! DEFINITION. The lock table's named procedures: the waiter queue, the grant step, the grant pass and the release path
(01_locks_and_generations.md, 02_waiting_and_granting.md). -/

namespace Sys2Proof.Machine

/-! ### Standing of a port at a lock -/

/-- The holder entry of a port (R3: at most one). -/
def LockRec.holderOf (lk : LockRec) (p : Port) : Option Holder := lk.holders.find? fun h => decide (h.port = p)

/-- The waiter entry of a port in the queue (R27: at most one). -/
def LockRec.waiterOf (lk : LockRec) (p : Port) : Option Waiter := lk.queue.find? fun w => decide (w.port = p)

/-- The port is the handover target. -/
def LockRec.isTarget (lk : LockRec) (p : Port) : Bool :=
  match lk.target with
  | some w => decide (w.port = p)
  | none => false

/-- The queue without the entry of a port; the entries behind it close up (R29). -/
def LockRec.withoutWaiter (lk : LockRec) (p : Port) : LockRec :=
  { lk with queue := lk.queue.filter fun w => decide (w.port ≠ p) }

/-! ### The waiter queue (R28) -/

/-- Directly after the last entry whose priority is equal or higher; at the front if there is none. -/
def placeByPriority (w : Waiter) : List Waiter → List Waiter
  | [] => [w]
  | x :: xs => if (x :: xs).any (fun y => decide (w.prio ≤ y.prio)) = true then x :: placeByPriority w xs else w :: x :: xs

/-- The place of a new entry: an UPGRADE entry at the head; any other by priority, never in front of an UPGRADE head. -/
def insertWaiter (w : Waiter) (queue : List Waiter) : List Waiter :=
  if w.req = .upgrade then w :: queue
  else
    match queue with
    | u :: rest => if u.req = .upgrade then u :: placeByPriority w rest else placeByPriority w queue
    | [] => [w]

/-- The position of a port's entry, counted from 1 at the head (R38). -/
def queuePosition (p : Port) (queue : List Waiter) : Nat := queue.findIdx (fun w => decide (w.port = p)) + 1

/-! ### The grant step (R5) -/

/-- The hold remaining of a new grant: the hold limit in force, absent when it is 0. -/
def LockRec.newHold (lk : LockRec) : Option Word16 := if lk.holdLimit = 0 then none else some lk.holdLimit

/-- The lock's state while it is held in a mode. -/
def heldState : Mode → LockState
  | .shared => .shared
  | .exclusive => .exclusive

/-- The holder entry a grant makes (R3, R5). -/
def LockRec.newHolder (lk : LockRec) (mode : Mode) (p : Port) : Holder :=
  { port := p, mode := mode, gen := nextGen lk.gen, hold := lk.newHold }

/-- The grant step on the record: the generation steps once, each granted port gets a holder entry (its old one is
replaced), and the state follows the mode. -/
def LockRec.grant (lk : LockRec) (mode : Mode) (ports : List Port) : LockRec :=
  { lk with
    state := heldState mode
    holders := lk.holders.filter (fun h => decide (h.port ∉ ports)) ++ ports.map (lk.newHolder mode)
    gen := nextGen lk.gen }

/-- A grant is told to the port of the entry it came from: by the stretched frame's GRANTED response when the blocking flag
is set (R40), by a GRANTED notice under the guard when it is clear (R50). -/
def State.deliverGrant (s : State) (l : LockId) (w : Waiter) (mode : Mode) (gen : Word16) (cause : Option Port) : State :=
  if w.blocking = true then s.endStretch w (.granted mode gen)
  else s.postGuarded w (.granted l mode gen) cause

/-! ### The grant pass (R33 to R36) -/

/-- What the grant pass does at a lock (R34). -/
inductive PassAction where
  | nothing
  | grantHead (w : Waiter)
  | batch (ws : List Waiter)
  | convert (w : Waiter)
  | startHandover (w : Waiter)
  deriving DecidableEq, Repr

/-- A shared batch: the head and every SHARED entry directly behind it (R35). -/
def sharedBatch (queue : List Waiter) : List Waiter := queue.takeWhile fun w => decide (w.req = .shared)

/-- The grant pass looks at the lock's state and at the head of its queue (R34, table). -/
def LockRec.pass (lk : LockRec) : PassAction :=
  match lk.queue with
  | [] => .nothing
  | w :: _ =>
    match lk.state, w.req with
    | .free, .exclusive =>
      match lk.group with
      | none => .grantHead w
      | some _ => .startHandover w
    | .free, .shared =>
      match lk.group with
      | none => .batch (sharedBatch lk.queue)
      | some _ => .nothing
    | .shared, .shared => .batch (sharedBatch lk.queue)
    | .shared, .upgrade =>
      match lk.holders with
      | [h] => if h.port = w.port then .convert w else .nothing
      | _ => .nothing
    | _, _ => .nothing

/-- The record after the pass. A handover keeps the entry's fields but discards its deadline (R36). -/
def LockRec.afterPass (lk : LockRec) : PassAction → LockRec
  | .nothing => lk
  | .grantHead w => { lk.grant .exclusive [w.port] with queue := lk.queue.tail }
  | .batch ws => { lk.grant .shared (ws.map (·.port)) with queue := lk.queue.drop ws.length }
  | .convert w => { lk.grant .exclusive [w.port] with queue := lk.queue.tail }
  | .startHandover w =>
    { lk with state := .handover, target := some { w with deadline := none }, queue := lk.queue.tail }

/-- The members of a batch are told each by its own way, in queue order (R50). -/
def State.deliverBatch (s : State) (l : LockId) (gen : Word16) (cause : Option Port) : List Waiter → State
  | [] => s
  | w :: ws => (s.deliverGrant l w .shared gen cause).deliverBatch l gen cause ws

/-- What the pass sends: the grants it delivers, or the make order of a handover (R36). -/
def State.tellPass (s : State) (l : LockId) (gen : Word16) (cause : Option Port) : PassAction → State
  | .nothing => s
  | .grantHead w => s.deliverGrant l w .exclusive gen cause
  | .batch ws => s.deliverBatch l gen cause ws
  | .convert w => s.deliverGrant l w .exclusive gen cause
  | .startHandover w => s.sendOrder l (.makeRoute w.port)

/-- The grant pass at a lock (R33). `cause` names the port whose teardown runs it, if any. -/
def State.grantPass (s : State) (l : LockId) (cause : Option Port) : State :=
  let lk := s.lock l
  (s.setLock l (lk.afterPass lk.pass)).tellPass l (nextGen lk.gen) cause lk.pass

/-! ### The release path (R14) -/

/-- The UPGRADE entry of a removed port becomes an ordinary EXCLUSIVE entry in its place (R14, step 2). -/
def demoteUpgrade (ports : List Port) (w : Waiter) : Waiter :=
  if w.req = .upgrade ∧ w.port ∈ ports then { w with req := .exclusive } else w

/-- The record without the holder entries of some ports, the state not yet changed (R14, steps 1 and 2). -/
def LockRec.withoutHolders (lk : LockRec) (ports : List Port) : LockRec :=
  { lk with
    holders := lk.holders.filter fun h => decide (h.port ∉ ports)
    queue := lk.queue.map (demoteUpgrade ports) }

/-- The lock becomes VACATING from a port and a break order goes to its group (R14 step 5, R49). -/
def State.vacate (s : State) (l : LockId) (lk : LockRec) (from_ : Option Port) : State :=
  (s.setLock l { lk with state := .vacating, vacatingFrom := from_, target := none }).sendOrder l .breakRoute

/-- The release path for the holder entries of some ports (R14). -/
def State.releasePath (s : State) (l : LockId) (ports : List Port) (cause : Option Port) : State :=
  let lk := (s.lock l).withoutHolders ports
  if lk.holders = [] then
    match lk.group with
    | none => (s.setLock l { lk with state := .free }).grantPass l cause
    | some _ => s.vacate l lk ports.head?
  else (s.setLock l lk).grantPass l cause

/-- The abort of a handover toward a port: the target entry is discarded, the lock becomes VACATING from the target's port,
and a break order goes to the group (R49). -/
def State.abortHandover (s : State) (l : LockId) (p : Port) : State := s.vacate l (s.lock l) (some p)

end Sys2Proof.Machine
end

