-- ==== Sys2Proof/Machine/LockCommands.lean ====
section
/-! DEFINITION. The lock commands: ACQUIRE, RELEASE, CANCEL, DOWNGRADE, QUERY, HOLDINGS and FORCE_RELEASE. -/

namespace Sys2Proof.Machine

/-! ### ACQUIRE (R8 to R13, R30, R31, R37 to R39) -/

/-- The data of a GRANTED record: mode and generation. -/
def grantedData (mode : Mode) (gen : Word16) : List Byte := mode.code :: wordBytes gen

/-- A deadline argument: 0 means none (R26). -/
def deadlineOf (d : Word16) : Option Word16 := if d = 0 then none else some d

/-- The waiter entry of a request: priority and epoch are the session's when it is made (R26). -/
def State.newWaiter (s : State) (p : Port) (req : ReqMode) (blocking : Bool) (deadline : Option Word16) : Waiter :=
  { port := p, req := req, prio := (s.session p).prio, deadline := deadline, blocking := blocking,
    epoch := (s.session p).epoch }

/-- The stretch begins: the engine goes from EXECUTING to STRETCHED and loads its stretch timer (R187). The response buffer
keeps its record (R39). -/
def Engine.beginStretch (e : Engine) (l : LockId) : Engine :=
  { e with state := .stretched, wait := .nothing, stretchTimer := some e.stretchCopy.toNat, stretchLock := some l,
           handed := none, limitClaim := none, abortEndings := false }

/-- The engine of port `p` begins a stretch for lock `l`. -/
def State.beginStretch (s : State) (p : Port) (l : LockId) : State := s.setEngine p ((s.engine p).beginStretch l)

/-- A request granted at once: the grant step for the requester alone, told by the GRANTED response (R10, R11, R30). -/
def grantAtOnce (p : Port) (l : LockId) (mode : Mode) (s : State) : State :=
  (s.setLock l ((s.lock l).grant mode [p])).respond p .granted (grantedData mode (nextGen (s.lock l).gen))

/-- A request that makes a waiter entry: QUEUE answers QUEUED with the position, BLOCK begins the stretch (R38, R39). -/
def enqueue (p : Port) (l : LockId) (req : ReqMode) (blocking : Bool) (deadline : Word16) (s : State) : State :=
  let queue := insertWaiter (s.newWaiter p req blocking (deadlineOf deadline)) (s.lock l).queue
  let s' := s.setLock l { s.lock l with queue := queue }
  if blocking = true then s'.beginStretch p l
  else s'.respond p .queued [natByte (queuePosition p queue)]

/-- An ACQUIRE on a FREE bound lock starts a handover in any wait mode: the requester becomes the target without a deadline,
and a make order goes to the group (R12). -/
def startHandover (p : Port) (l : LockId) (blocking : Bool) (s : State) : State :=
  let target := s.newWaiter p .exclusive blocking none
  let s' := (s.setLock l { s.lock l with state := .handover, target := some target }).sendOrder l (.makeRoute p)
  if blocking = true then s'.beginStretch p l
  else s'.respond p .queued [0]

/-- The requested mode of an ordinary entry. -/
def reqOf : Mode → ReqMode
  | .shared => .shared
  | .exclusive => .exclusive

/-- The upgrade path: a SHARED holder asks EXCLUSIVE (R30, R31). -/
def upgrade (p : Port) (l : LockId) (wait : WaitMode) (deadline : Word16) (s : State) : State :=
  if (s.lock l).holders.length = 1 then grantAtOnce p l .exclusive s
  else if (s.lock l).queue.any (fun w => decide (w.req = .upgrade)) = true then s.refuse p .deadlock
  else
    match wait with
    | .tryNow => s.refuse p .busy
    | .queue => enqueue p l .upgrade false deadline s
    | .block => enqueue p l .upgrade true deadline s

/-- A request that is not granted at once: its wait mode decides (R13, table). -/
def waitForLock (p : Port) (l : LockId) (mode : Mode) (wait : WaitMode) (deadline : Word16) (s : State) : State :=
  match wait with
  | .tryNow => if (s.lock l).state = .faulted then s.refuse p .routeFault else s.refuse p .busy
  | .queue => enqueue p l (reqOf mode) false deadline s
  | .block => enqueue p l (reqOf mode) true deadline s

/-- A request of a port with no standing at the lock (R10 to R13). -/
def freshRequest (p : Port) (l : LockId) (mode : Mode) (wait : WaitMode) (deadline : Word16) (s : State) : State :=
  let lk := s.lock l
  if lk.state = .free then
    match lk.group with
    | none => grantAtOnce p l mode s
    | some _ => startHandover p l (decide (wait = .block)) s
  else if mode = .shared ∧ lk.state = .shared ∧ lk.queue = [] then grantAtOnce p l .shared s
  else waitForLock p l mode wait deadline s

/-- SHARED is refused at this lock (R8 step 2, R7). -/
def State.refusesShared (s : State) (l : LockId) : Bool :=
  decide (l = 0) || !(s.lock l).sharedAllowed || (s.lock l).group.isSome

/-- The port has a waiter entry on the lock or is its handover target (R9 step 4). -/
def LockRec.waitsFor (lk : LockRec) (p : Port) : Bool := (lk.waiterOf p).isSome || lk.isTarget p

/-- ACQUIRE after its argument step: R8 step 2, then R9, then R10 to R13. -/
def acquireAt (p : Port) (l : LockId) (mode : Mode) (wait : WaitMode) (deadline : Word16) (s : State) : State :=
  if mode = .shared ∧ s.refusesShared l = true then s.refuse p .mode
  else
    match (s.lock l).holderOf p with
    | some h =>
      if mode = .shared ∨ h.mode = .exclusive then s.refuse p .held
      else if (s.lock l).waitsFor p = true then s.refuse p .duplicate
      else upgrade p l wait deadline s
    | none =>
      if (s.lock l).waitsFor p = true then s.refuse p .duplicate
      else freshRequest p l mode wait deadline s

/-- ACQUIRE past the common checks. -/
def carryAcquire (p : Port) (lock mode wait : Byte) (deadline : Word16) (s : State) : State :=
  match lockArg lock, modeArg mode, waitArg wait with
  | some l, some m, some w => acquireAt p l m w deadline s
  | _, _, _ => s.refuse p .range

/-- ACQUIRE. -/
def execAcquire (p : Port) (seq lock mode wait : Byte) (deadline : Word16) (s : State) : Host.Outcome State Fault Refusal :=
  .next (runFrame p seq (.acquire lock mode wait deadline) (carryAcquire p lock mode wait deadline) s)

/-! ### RELEASE (R15) -/

/-- RELEASE past the common checks. -/
def carryRelease (p : Port) (lock : Byte) (generation : Word16) (s : State) : State :=
  match lockArg lock with
  | none => s.refuse p .range
  | some l =>
    match (s.lock l).holderOf p with
    | none => s.refuse p .notHeld
    | some h =>
      if h.gen ≠ generation then s.refuse p .stale
      else (s.releasePath l [p] none).respond p .ok []

/-- RELEASE. -/
def execRelease (p : Port) (seq lock : Byte) (generation : Word16) (s : State) : Host.Outcome State Fault Refusal :=
  .next (runFrame p seq (.release lock generation) (carryRelease p lock generation) s)

/-! ### CANCEL (R48, R49) -/

/-- CANCEL past the common checks: a queued entry is removed and the grant pass runs; a handover target aborts the handover
and no pass runs. -/
def carryCancel (p : Port) (lock : Byte) (s : State) : State :=
  match lockArg lock with
  | none => s.refuse p .range
  | some l =>
    if ((s.lock l).waiterOf p).isSome = true then
      ((s.setLock l ((s.lock l).withoutWaiter p)).grantPass l none).respond p .ok []
    else if (s.lock l).isTarget p = true then (s.abortHandover l p).respond p .ok []
    else s.refuse p .notWaiting

/-- CANCEL. -/
def execCancel (p : Port) (seq lock : Byte) (s : State) : Host.Outcome State Fault Refusal :=
  .next (runFrame p seq (.cancel lock) (carryCancel p lock) s)

/-! ### DOWNGRADE (R17, R18) -/

/-- The holder entry of the port turned SHARED: generation and hold remaining are kept, and the lock becomes SHARED (R18). -/
def LockRec.downgraded (lk : LockRec) (p : Port) : LockRec :=
  { lk with
    state := .shared
    holders := lk.holders.map fun h => if h.port = p then { h with mode := .shared } else h }

/-- DOWNGRADE past the common checks. -/
def carryDowngrade (p : Port) (lock : Byte) (generation : Word16) (s : State) : State :=
  match lockArg lock with
  | none => s.refuse p .range
  | some l =>
    if s.refusesShared l = true then s.refuse p .mode
    else
      match (s.lock l).holderOf p with
      | none => s.refuse p .notHeld
      | some h =>
        if h.mode ≠ .exclusive then s.refuse p .notHeld
        else if h.gen ≠ generation then s.refuse p .stale
        else ((s.setLock l ((s.lock l).downgraded p)).grantPass l none).respond p .ok []

/-- DOWNGRADE. -/
def execDowngrade (p : Port) (seq lock : Byte) (generation : Word16) (s : State) : Host.Outcome State Fault Refusal :=
  .next (runFrame p seq (.downgrade lock generation) (carryDowngrade p lock generation) s)

/-! ### QUERY (R22) -/

/-- A list cut or filled up to a fixed number of slots. -/
def fillSlots {α : Type} (n : Nat) (fill : α) (xs : List α) : List α :=
  xs.take n ++ List.replicate (n - xs.length) fill

/-- The holder slots, in ascending order of port number; empty slots are 0xFF in all four bytes. -/
def LockRec.holderSlots (lk : LockRec) : List Byte :=
  (fillSlots 4 [absentByte, absentByte, absentByte, absentByte]
    (allPorts.filterMap fun p =>
      (lk.holderOf p).map fun h => [natByte h.port.val, h.mode.code] ++ wordBytes h.gen)).flatten

/-- The waiter slots, in queue order from the head. -/
def LockRec.waiterSlots (lk : LockRec) : List Byte := fillSlots 4 absentByte (lk.queue.map fun w => natByte w.port.val)

/-- The handover target's port in HANDOVER, the vacating-from port in VACATING, 0xFF in any other state. -/
def LockRec.targetByte (lk : LockRec) : Byte :=
  match lk.state with
  | .handover => portByte (lk.target.map (·.port))
  | .vacating => portByte lk.vacatingFrom
  | .free | .exclusive | .shared | .faulted => absentByte

/-- The 30 data bytes of a QUERY record (11_formats_codes_and_pins.md, "QUERY data"). -/
def LockRec.queryData (lk : LockRec) : List Byte :=
  [lk.state.code, boolByte lk.sharedAllowed] ++ wordBytes lk.holdLimit ++ [portByte lk.group] ++ wordBytes lk.gen ++
    [natByte lk.holders.length] ++ lk.holderSlots ++ [natByte lk.queue.length] ++ lk.waiterSlots ++ [lk.targetByte]

/-- QUERY past the common checks. -/
def carryQuery (p : Port) (lock : Byte) (s : State) : State :=
  match lockArg lock with
  | none => s.refuse p .range
  | some l => s.respond p .ok (s.lock l).queryData

/-- QUERY. -/
def execQuery (p : Port) (seq lock : Byte) (s : State) : Host.Outcome State Fault Refusal :=
  .next (runFrame p seq (.query lock) (carryQuery p lock) s)

/-! ### HOLDINGS (R23) -/

/-- The port has a holder entry of this mode on the lock. -/
def LockRec.heldBy (lk : LockRec) (p : Port) (mode : Mode) : Bool :=
  lk.holders.any fun h => decide (h.port = p) && decide (h.mode = mode)

/-- The port has a waiter entry or a handover target entry on the lock with the blocking flag set. -/
def LockRec.blocks (lk : LockRec) (p : Port) : Bool :=
  lk.queue.any (fun w => decide (w.port = p) && w.blocking) ||
    match lk.target with
    | some w => decide (w.port = p) && w.blocking
    | none => false

/-- The four lock sets of a HOLDINGS record: held exclusive, held shared, waited on, blocking. -/
def State.holdingsData (s : State) (p : Port) : List Byte :=
  lockSetBytes (lockSet fun l => (s.lock l).heldBy p .exclusive) ++
    lockSetBytes (lockSet fun l => (s.lock l).heldBy p .shared) ++
    lockSetBytes (lockSet fun l => (s.lock l).waitsFor p) ++
    lockSetBytes (lockSet fun l => (s.lock l).blocks p)

/-- HOLDINGS past the common checks. -/
def carryHoldings (p : Port) (s : State) : State := s.respond p .ok (s.holdingsData p)

/-- HOLDINGS. -/
def execHoldings (p : Port) (seq : Byte) (s : State) : Host.Outcome State Fault Refusal :=
  .next (runFrame p seq .holdings (carryHoldings p) s)

/-! ### FORCE_RELEASE (R21) -/

/-- REVOKED notices to some holders, each with its own grant generation (R19, R21, R74). -/
def State.postRevoked (s : State) (l : LockId) (reason : RevokeReason) : List Holder → State
  | [] => s
  | h :: hs => (s.postFromLocks h.port (.revoked l h.gen reason) none).postRevoked l reason hs

/-- FORCE_RELEASE past the common checks: the REVOKED posts go before those of the grant pass (log 23). -/
def carryForceRelease (p : Port) (lock : Byte) (s : State) : State :=
  match lockArg lock with
  | none => s.refuse p .range
  | some l =>
    if l = 0 then s.refuse p .range
    else
      let holders := (s.lock l).holders
      if holders = [] then s.refuse p .notHeld
      else
        ((s.postRevoked l .forced holders).releasePath l (holders.map (·.port)) none).respond p .ok
          [natByte holders.length]

/-- FORCE_RELEASE. -/
def execForceRelease (p : Port) (seq lock : Byte) (s : State) : Host.Outcome State Fault Refusal :=
  .next (runFrame p seq (.forceRelease lock) (carryForceRelease p lock) s)

end Sys2Proof.Machine
end

