-- ==== Sys2Proof/Machine/Messages.lean ====
section
/-! DEFINITION. The message block: the pool, SEND, TAKE, PEEK, FLUSH and the flush procedure
(05_message_pool_and_inbound_queues.md). -/

namespace Sys2Proof.Machine

/-! ### The pool (R107, R109) -/

/-- The cell is free. -/
def State.cellFree (s : State) (c : CellId) : Bool := (s.cell c).isNone

/-- The pool free count (R107). -/
def State.poolFree (s : State) : Nat := allCells.countP s.cellFree

/-- The cell holds a message sent by the port. -/
def State.cellFrom (s : State) (p : Port) (c : CellId) : Bool :=
  match s.cell c with
  | some x => decide (x.source = p)
  | none => false

/-- The outstanding count of a port: the cells in use whose source it is (R109). -/
def State.outstanding (s : State) (p : Port) : Nat := allCells.countP (s.cellFrom p)

/-- The free cell a SEND takes: the lowest, which no host can tell from another (R107; log 15). -/
def State.freeCell (s : State) : Option CellId := allCells.find? s.cellFree

/-- The port's session is OPEN: it is present (R84, R112). -/
def State.present (s : State) (p : Port) : Bool := decide ((s.session p).state = .opened)

/-! ### SEND (R111 to R115) -/

/-- The dest argument: one other port or a broadcast; none when it names the sender or is 4 to 0xFE (R111). -/
def destArg (p : Port) (dest : Byte) : Option (Option Port) :=
  if dest = 0xFF then some none
  else
    match portArg dest with
    | some q => if q = p then none else some (some q)
    | none => none

/-- The destination set: the named port, or every other port, as far as present (R112). -/
def State.destinations (s : State) (p : Port) : Option Port → List Port
  | some q => if s.present q = true then [q] else []
  | none => allPorts.filter fun q => decide (q ≠ p) && s.present q

/-- The port's inbound queue is at or above its quota (R109, R113). -/
def State.queueFull (s : State) (q : Port) : Bool := decide ((s.inbound q).quota.toNat ≤ (s.inbound q).queue.length)

/-- The port's outstanding count is at or above its send cap (R109, R113). -/
def State.capReached (s : State) (p : Port) : Bool := decide ((s.inbound p).sendCap.toNat ≤ s.outstanding p)

/-- The cell of an accepted SEND (R114 step 3). -/
def State.newCell (s : State) (p : Port) (tag : Byte) (receipt broadcast : Bool) (payload : List Byte) (dests : List Port) :
    Cell :=
  { source := p, epoch := (s.session p).epoch, number := nextNumber (s.inbound p).number, tag := tag, receipt := receipt,
    broadcast := broadcast, payload := payload, refs := dests.length }

/-- One reference at the tail of each destination's queue (R114 step 4). -/
def State.appendReferences (s : State) (c : CellId) : List Port → State
  | [] => s
  | q :: qs => (s.setInbound q { s.inbound q with queue := (s.inbound q).queue ++ [c] }).appendReferences c qs

/-- An accepted SEND: a cell is taken, the counter steps, the cell is filled and its references appended (R114). -/
def acceptSend (p : Port) (tag : Byte) (receipt broadcast : Bool) (payload : List Byte) (dests : List Port) (c : CellId)
    (s : State) : State :=
  let cell := s.newCell p tag receipt broadcast payload dests
  let s1 := s.setInbound p { s.inbound p with number := cell.number }
  let s2 := (s1.setCell c (some cell)).appendReferences c dests
  s2.respond p .ok (wordBytes cell.number ++ [portSetByte fun q => decide (q ∈ dests)])

/-- SEND past the common checks: range, presence, limits (R111, R112, R113). -/
def carrySend (p : Port) (dest tag flags : Byte) (payload : List Byte) (s : State) : State :=
  match destArg p dest, boolArg flags with
  | some target, some receipt =>
    let dests := s.destinations p target
    if dests = [] then s.refuse p .peerAbsent
    else if dests.any s.queueFull = true then s.refuse p .queueFull
    else if s.capReached p = true then s.refuse p .sendCap
    else
      match s.freeCell with
      | none => s.refuse p .poolEmpty
      | some c => acceptSend p tag receipt target.isNone payload dests c s
  | _, _ => s.refuse p .range

/-- SEND. -/
def execSend (p : Port) (seq dest tag flags : Byte) (payload : List Byte) (s : State) : Host.Outcome State Fault Refusal :=
  .next (runFrame p seq (.send dest tag flags payload) (carrySend p dest tag flags payload) s)

/-! ### Letting go of a reference (R107, R121) -/

/-- One reference less; at count 0 the cell is free (R107). -/
def Cell.letGo (x : Cell) : Option Cell := if x.refs ≤ 1 then none else some { x with refs := x.refs - 1 }

/-- The receipt owed by port `p` for a message, under the guard of R121: the sender's session is OPEN with the source epoch. -/
def State.postReceipt (s : State) (p : Port) (x : Cell) (outcome : ReceiptOutcome) (cause : Option Port) : State :=
  if x.receipt = true ∧ s.sessionIs x.source x.epoch = true then
    s.postFromMessages x.source (.receipt p x.number outcome) cause
  else s

/-- Port `p` lets go of a cell that its queue has named: the count falls, and an owed receipt is posted. -/
def State.release (s : State) (p : Port) (c : CellId) (outcome : ReceiptOutcome) (cause : Option Port) : State :=
  match s.cell c with
  | some x => (s.setCell c x.letGo).postReceipt p x outcome cause
  | none => s

/-! ### TAKE and PEEK (R116, R117) -/

/-- The data of a TAKE or PEEK record (11_formats_codes_and_pins.md, "TAKE and PEEK data"). -/
def Cell.recordData (x : Cell) : List Byte :=
  [natByte x.source.val, x.epoch, x.tag] ++ wordBytes x.number ++
    [messageFlags x.receipt x.broadcast, natByte x.payload.length] ++ x.payload

/-- The data the message in a cell is returned with; a queue names only cells in use (R107). -/
def State.messageData (s : State) (c : CellId) : List Byte :=
  match s.cell c with
  | some x => x.recordData
  | none => []

/-- TAKE past the common checks. -/
def carryTake (p : Port) (s : State) : State :=
  match (s.inbound p).queue with
  | [] => s.respond p .empty []
  | c :: rest =>
    ((s.setInbound p { s.inbound p with queue := rest }).release p c .taken none).respond p .ok (s.messageData c)

/-- TAKE. -/
def execTake (p : Port) (seq : Byte) (s : State) : Host.Outcome State Fault Refusal :=
  .next (runFrame p seq .take (carryTake p) s)

/-- PEEK past the common checks. -/
def carryPeek (p : Port) (s : State) : State :=
  match (s.inbound p).queue with
  | [] => s.respond p .empty []
  | c :: _ => s.respond p .ok (s.messageData c)

/-- PEEK. -/
def execPeek (p : Port) (seq : Byte) (s : State) : Host.Outcome State Fault Refusal :=
  .next (runFrame p seq .peek (carryPeek p) s)

/-! ### The flush (R119, R120) -/

/-- Each reference in turn, oldest first: the count falls and an owed DISCARDED receipt is posted (R120). -/
def State.releaseAll (s : State) (p : Port) (cause : Option Port) : List CellId → State
  | [] => s
  | c :: cs => (s.release p c .discarded cause).releaseAll p cause cs

/-- The flush procedure on the inbound queue of a port (R120). -/
def State.flushQueue (s : State) (p : Port) (cause : Option Port) : State :=
  (s.setInbound p { s.inbound p with queue := [] }).releaseAll p cause (s.inbound p).queue

/-- FLUSH past the common checks: the response counts the references removed (R119). -/
def carryFlush (p : Port) (s : State) : State :=
  (s.flushQueue p none).respond p .ok [natByte (s.inbound p).queue.length]

/-- FLUSH. -/
def execFlush (p : Port) (seq : Byte) (s : State) : Host.Outcome State Fault Refusal :=
  .next (runFrame p seq .flush (carryFlush p) s)

end Sys2Proof.Machine
end

