-- ==== Sys2Proof/Machine/Sessions.lean ====
section
/-! DEFINITION. The session block: STATUS, OPEN, CLOSE, EXPEL, the lease, and the five steps of a teardown
(04_sessions_and_leases.md). -/

namespace Sys2Proof.Machine

/-! ### STATUS (R102, R103) -/

/-- The 12 data bytes of a STATUS record (11_formats_codes_and_pins.md, "STATUS data"). -/
def State.statusData (s : State) (p : Port) : List Byte :=
  let x := s.session p
  [x.state.code, x.endReason.code, x.epoch, natByte x.prio.val] ++ wordBytes x.lease ++
    [natByte (s.noticeQueue p).records.length, natByte (s.inbound p).queue.length, natByte s.poolFree,
     portByte s.authorityHolder, statusFlags (s.noticeQueue p).lost (s.engine p).linkError,
     (s.engine p).strap.setWidth 8]

/-- STATUS past the common checks: the report, and the port's link-error flag cleared (R103). -/
def carryStatus (p : Port) (s : State) : State :=
  (s.setEngine p { s.engine p with linkError := false }).respond p .ok (s.statusData p)

/-- STATUS. -/
def execStatus (p : Port) (seq : Byte) (s : State) : Host.Outcome State Fault Refusal :=
  .next (runFrame p seq .status (carryStatus p) s)

/-! ### OPEN (R86 to R89) -/

/-- The session an accepted OPEN makes (R87): the effective priority is the lower of the requested one and the cap (R89). -/
def Session.opening (x : Session) (lease : Word16) (prio : Prio) (threshold : Byte) (noticeAttn : Bool) : Session :=
  { x with state := .opened, epoch := nextEpoch x.epoch, leasePeriod := lease, lease := lease, prio := min prio x.cap,
           threshold := threshold, noticeAttn := noticeAttn, awaiter := none, teardown := none }

/-- A notice to each listed port whose session is OPEN (R88, R99). -/
def State.tellPeers (s : State) (n : Notice) (cause : Option Port) : List Port → State
  | [] => s
  | q :: qs => (if s.present q = true then s.postFromSessions q n cause else s).tellPeers n cause qs

/-- The other ports. -/
def otherPorts (p : Port) : List Port := allPorts.filter fun q => decide (q ≠ p)

/-- OPEN past the common checks (R86, R87). -/
def carryOpen (p : Port) (lease : Word16) (priority threshold flags : Byte) (s : State) : State :=
  match prioArg priority, boolArg flags with
  | some prio, some noticeAttn =>
    if within 100 60000 lease.toNat = false ∨ within 0 32 threshold.toNat = false then s.refuse p .range
    else if (s.session p).state ≠ .closed then s.refuse p .state
    else
      let x := (s.session p).opening lease prio threshold noticeAttn
      ((s.setSession p x).tellPeers (.peerOpened p x.epoch) none (otherPorts p)).respond p .ok
        [x.epoch, natByte x.prio.val, x.endReason.code]
  | _, _ => s.refuse p .range

/-- OPEN. -/
def execOpenSession (p : Port) (seq : Byte) (lease : Word16) (priority threshold flags : Byte) (s : State) :
    Host.Outcome State Fault Refusal :=
  .next (runFrame p seq (.openSession lease priority threshold flags) (carryOpen p lease priority threshold flags) s)

/-! ### The start of a teardown (R96), CLOSE (R93), EXPEL (R94, R95), the lease (R91) -/

/-- The session becomes ENDING: the lease stops, the end reason and the awaiter are set, and the first step is handed to the
lock table (R96). -/
def Session.beginTeardown (x : Session) (reason : EndReason) (awaiter : Option Port) : Session :=
  { x with state := .ending, lease := 0, endReason := reason, awaiter := awaiter,
           teardown := some { step := .holdings, locks := 0, taken := false } }

/-- A teardown of port `q` begins at the session block. -/
def State.beginTeardown (s : State) (q : Port) (reason : EndReason) (awaiter : Option Port) : State :=
  s.setSession q ((s.session q).beginTeardown reason awaiter)

/-- The engine waits in EXECUTING (R186). -/
def State.waitFor (s : State) (p : Port) (w : ExecWait) : State := s.setEngine p { s.engine p with wait := w }

/-- CLOSE past the common checks (R93). In ENDING it has been refused at the session step. -/
def carryClose (p : Port) (s : State) : State :=
  if (s.session p).state = .opened then (s.beginTeardown p .closed (some p)).waitFor p .ownTeardown
  else s.respond p .ok []

/-- CLOSE. -/
def execClose (p : Port) (seq : Byte) (s : State) : Host.Outcome State Fault Refusal :=
  .next (runFrame p seq .close (carryClose p) s)

/-- EXPEL past the common checks (R94, R95). -/
def carryExpel (p : Port) (port : Byte) (s : State) : State :=
  match portArg port with
  | none => s.refuse p .range
  | some q =>
    if q = p ∨ s.present q = false then s.refuse p .state
    else (s.beginTeardown q .expelled (some p)).waitFor p (.teardownOf q)

/-- EXPEL. -/
def execExpel (p : Port) (seq port : Byte) (s : State) : Host.Outcome State Fault Refusal :=
  .next (runFrame p seq (.expel port) (carryExpel p port) s)

/-- LEASE_EXPIRY (R91): only an OPEN session has a lease timer, and it expires when it has reached zero. After a renewal that was
taken first no expiry takes place. -/
def execLeaseExpiry (p : Port) (s : State) : Host.Outcome State Fault Refusal :=
  if (s.session p).state = .opened ∧ (s.session p).lease = 0 then .next (s.beginTeardown p .lapsed none) else .next s

/-! ### The teardown steps (R97 to R100) -/

/-- No post that a teardown step of the port has sent is still in flight (R133). -/
def State.postsTaken (s : State) (p : Port) : Bool :=
  (s.lockPosts ++ s.sessionPosts ++ s.messagePosts).all fun x => decide (x.cause ≠ some p)

/-- The step has been taken everywhere it must be taken. -/
def Teardown.stepTaken (t : Teardown) : Bool :=
  match t.step with
  | .holdings | .waits => decide (t.locks = BitVec.allOnes 32)
  | .flush | .peerEnded | .finish => t.taken

/-- The next step of a teardown (R97 to R100). -/
def TeardownStep.next : TeardownStep → TeardownStep
  | .holdings => .waits
  | .waits => .flush
  | .flush => .peerEnded
  | .peerEnded | .finish => .finish

/-- The block that takes a teardown step (R97 to R100). -/
def TeardownStep.block : TeardownStep → RestartBlock
  | .holdings | .waits => .lockAndRoute
  | .flush => .message
  | .peerEnded | .finish => .notice

/-- A block has taken the second stage of the RESTART (R159). -/
def Restart.takenBy (r : Restart) : RestartBlock → Bool
  | .session => r.sessionTaken
  | .lockAndRoute => r.lockTaken
  | .message => r.messageTaken
  | .notice => r.noticeTaken

/-- A RESTART is in progress that the block has taken. -/
def State.restartTakenBy (s : State) (block : RestartBlock) : Bool :=
  match s.restart with
  | some r => r.takenBy block
  | none => false

/-- The step of port `p`'s teardown that the session block has handed on: the next one as soon as the one before has been taken
everywhere, its posts included, while the session is ENDING (R97, R133; after a RESTART no further step, R105). -/
def State.handedOn (s : State) (p : Port) : Option Teardown :=
  match (s.session p).teardown with
  | none => none
  | some t =>
    if t.stepTaken = true ∧ s.postsTaken p = true ∧ (s.session p).state = .ending then
      some { step := t.step.next, locks := 0, taken := false }
    else some t

/-- The step of port `p`'s teardown that is in flight or has been taken: the one handed on. A step to a block that has taken the
RESTART in progress is discarded there (R105; log 18). -/
def State.teardownStep (s : State) (p : Port) : Option Teardown :=
  (s.handedOn p).filter fun t => !s.restartTakenBy t.step.block

/-- The port's step in flight is the given lock step, and this lock has not taken it. -/
def State.lockStepDue (s : State) (p : Port) (step : TeardownStep) (l : LockId) : Bool :=
  match s.teardownStep p with
  | some t => decide (t.step = step) && !(t.locks.getLsbD l.val)
  | none => false

/-- The port's step in flight is the given one, and its block has not taken it. -/
def State.blockStepDue (s : State) (p : Port) (step : TeardownStep) : Bool :=
  match s.teardownStep p with
  | some t => decide (t.step = step) && !t.taken
  | none => false

/-- The step as it stands, marked as taken by a lock. -/
def State.markLock (s : State) (p : Port) (t : Teardown) (l : LockId) : State :=
  s.setSession p { s.session p with teardown := some { t with locks := t.locks ||| BitVec.twoPow 32 l.val } }

/-- The step as it stands, marked as taken by its block. -/
def State.markBlock (s : State) (p : Port) (t : Teardown) : State :=
  s.setSession p { s.session p with teardown := some { t with taken := true } }

/-- The first step at a lock: the port's holder entry is removed by the release path, without a REVOKED notice (R97). -/
def State.withdrawHolding (s : State) (p : Port) (l : LockId) : State :=
  if ((s.lock l).holderOf p).isSome = true then s.releasePath l [p] (some p) else s

/-- The second step, items 1 and 4: the waiter entry is removed, a blocking one ends its frame with ABORTED, and the grant
pass runs (R51). -/
def State.withdrawWaiter (s : State) (p : Port) (l : LockId) : State :=
  match (s.lock l).waiterOf p with
  | some w =>
    let s' := (s.setLock l ((s.lock l).withoutWaiter p)).grantPass l (some p)
    if w.blocking = true then s'.handEnding p .aborted else s'
  | none => s

/-- The second step, items 2 and 4: a handover toward the port is aborted (R51, R49). -/
def State.withdrawTarget (s : State) (p : Port) (l : LockId) : State :=
  match (s.lock l).target with
  | some w =>
    if w.port = p then
      let s' := s.abortHandover l p
      if w.blocking = true then s'.handEnding p .aborted else s'
    else s
  | none => s

/-- TEARDOWN_HOLDINGS (R97, R51): the first step of port `p` taken at lock `l`. -/
def execTeardownHoldings (p : Port) (l : LockId) (s : State) : Host.Outcome State Fault Refusal :=
  match s.lockStepDue p .holdings l, s.teardownStep p with
  | true, some t => .next ((s.withdrawHolding p l).markLock p t l)
  | _, _ => .next s

/-- TEARDOWN_WAITS (R51): the second step of port `p` taken at lock `l`. -/
def execTeardownWaits (p : Port) (l : LockId) (s : State) : Host.Outcome State Fault Refusal :=
  match s.lockStepDue p .waits l, s.teardownStep p with
  | true, some t => .next ((((s.withdrawWaiter p l).withdrawTarget p l).withdrawHolding p l).markLock p t l)
  | _, _ => .next s

/-- TEARDOWN_FLUSH (R98). -/
def execTeardownFlush (p : Port) (s : State) : Host.Outcome State Fault Refusal :=
  match s.blockStepDue p .flush, s.teardownStep p with
  | true, some t => .next ((s.flushQueue p (some p)).markBlock p t)
  | _, _ => .next s

/-- TEARDOWN_PEER_ENDED (R99). -/
def execTeardownPeerEnded (p : Port) (s : State) : Host.Outcome State Fault Refusal :=
  match s.blockStepDue p .peerEnded, s.teardownStep p with
  | true, some t =>
    .next ((s.tellPeers (.peerEnded p (s.session p).epoch (s.session p).endReason) (some p) (otherPorts p)).markBlock p t)
  | _, _ => .next s

/-- The session record at the end of a teardown: CLOSED, with the end reason and the epoch kept (R100). -/
def Session.finish (x : Session) : Session :=
  { x with state := .closed, leasePeriod := 0, lease := 0, prio := 0, threshold := 0, noticeAttn := false,
           awaiter := none, teardown := none }

/-- The OK a teardown of port `p` owes its awaiter: stored while that engine waits for this teardown, discarded after a RESTART
has changed what it waits for (R93, R95, R100, R158). -/
def State.handOk (s : State) (p : Port) (awaiter : Option Port) : State :=
  match awaiter with
  | none => s
  | some a =>
    if (s.engine a).state = .executing ∧
        (s.engine a).wait = (if a = p then ExecWait.ownTeardown else ExecWait.teardownOf p) then
      s.respond a .ok []
    else s

/-- TEARDOWN_END (R100): the notice queue is emptied and the lost flag cleared, a receipt or another guarded notice still on its way
to it is discarded with the rest (R126, R138), then the session is CLOSED and the awaiter gets its OK. A session that a RESTART has
closed meanwhile stays as it is (R105). -/
def execTeardownEnd (p : Port) (s : State) : Host.Outcome State Fault Refusal :=
  match s.blockStepDue p .finish with
  | true =>
    let s' := s.setNoticeQueue p { records := [], lost := false }
    if (s.session p).state = .ending then
      .next (((s'.discardPosts fun q => decide (q = p)).setSession p (s.session p).finish).handOk p (s.session p).awaiter)
    else .next (s'.setSession p { s.session p with teardown := none })
  | false => .next s

end Sys2Proof.Machine
end

