-- ==== Sys2Proof/Machine/Authority.lean ====
section
/-! DEFINITION. The configuration block: SET_LOCK_ATTR, SET_PORT_LIMITS and the handing on of port limits
(07_configuration_authority.md). -/

namespace Sys2Proof.Machine

/-! ### SET_LOCK_ATTR (R151, R152) -/

/-- Sharing cannot be turned off now: the lock is SHARED or has a SHARED waiter (R151 step 2). -/
def LockRec.inSharedUse (lk : LockRec) : Bool :=
  decide (lk.state = .shared) || lk.queue.any fun w => decide (w.req = .shared)

/-- SET_LOCK_ATTR past the common checks. -/
def carrySetLockAttr (p : Port) (lock shared : Byte) (hold : Word16) (s : State) : State :=
  match lockArg lock, boolArg shared with
  | some l, some allowed =>
    if l = 0 then s.refuse p .range
    else if allowed = false ∧ (s.lock l).inSharedUse = true then s.refuse p .busy
    else (s.setLock l { s.lock l with sharedAllowed := allowed, holdLimit := hold }).respond p .ok []
  | _, _ => s.refuse p .range

/-- SET_LOCK_ATTR. -/
def execSetLockAttr (p : Port) (seq lock shared : Byte) (hold : Word16) (s : State) : Host.Outcome State Fault Refusal :=
  .next (runFrame p seq (.setLockAttr lock shared hold) (carrySetLockAttr p lock shared hold) s)

/-! ### SET_PORT_LIMITS (R154) -/

/-- SET_PORT_LIMITS past the common checks: the configuration block stores the values and hands them on; the response waits
until the three blocks have taken them (R154). -/
def carrySetPortLimits (p : Port) (port cap quota sendCap stretch : Byte) (s : State) : State :=
  match portArg port, prioArg cap with
  | some q, some c =>
    if within 1 32 quota.toNat = false ∨ within 1 64 sendCap.toNat = false ∨ within 1 50 stretch.toNat = false then
      s.refuse p .range
    else
      (s.setLimit q { cap := c, quota := quota, sendCap := sendCap, stretch := stretch }).waitFor p
        (.portLimits { port := q, cap := c, quota := quota, sendCap := sendCap, stretch := stretch,
                       sessionTaken := false, messageTaken := false, engineTaken := false })
  | _, _ => s.refuse p .range

/-- SET_PORT_LIMITS. -/
def execSetPortLimits (p : Port) (seq port cap quota sendCap stretch : Byte) (s : State) :
    Host.Outcome State Fault Refusal :=
  .next (runFrame p seq (.setPortLimits port cap quota sendCap stretch)
    (carrySetPortLimits p port cap quota sendCap stretch) s)

/-! ### NEW_PORT_LIMITS_TAKEN (R155 to R157) -/

/-- The session block takes a new cap: the effective priority of an OPEN or ENDING session is lowered to it (R155). -/
def Session.takeCap (x : Session) (cap : Prio) : Session :=
  { x with cap := cap, prio := if x.state = .closed then x.prio else min x.prio cap }

/-- The block has taken the values of the hand-over. -/
def LimitsHandover.takenBy (h : LimitsHandover) : LimitBlock → Bool
  | .session => h.sessionTaken
  | .message => h.messageTaken
  | .engine => h.engineTaken

/-- The hand-over once a block has taken it. -/
def LimitsHandover.mark (h : LimitsHandover) : LimitBlock → LimitsHandover
  | .session => { h with sessionTaken := true }
  | .message => { h with messageTaken := true }
  | .engine => { h with engineTaken := true }

/-- All three blocks have taken the values. -/
def LimitsHandover.complete (h : LimitsHandover) : Bool := h.sessionTaken && h.messageTaken && h.engineTaken

/-- A block takes its values as one arrival (R154 to R157). -/
def State.takeLimits (s : State) (h : LimitsHandover) : LimitBlock → State
  | .session => s.setSession h.port ((s.session h.port).takeCap h.cap)
  | .message => s.setInbound h.port { s.inbound h.port with quota := h.quota, sendCap := h.sendCap }
  | .engine => s.setEngine h.port { s.engine h.port with stretchCopy := h.stretch }

/-- NEW_PORT_LIMITS_TAKEN: one block takes the values that `requester` has handed on; when all three have, OK is stored at the
requester's engine (R154). -/
def execNewPortLimitsTaken (requester : Port) (block : LimitBlock) (s : State) : Host.Outcome State Fault Refusal :=
  match (s.engine requester).state, (s.engine requester).wait with
  | .executing, .portLimits h =>
    if h.takenBy block = true then .next s
    else
      let s' := (s.takeLimits h block).waitFor requester (.portLimits (h.mark block))
      if (h.mark block).complete = true then .next (s'.respond requester .ok []) else .next s'
  | _, _ => .next s

end Sys2Proof.Machine
end

