-- ==== Sys2Proof/Machine/LockTimers.lean ====
section
/-! DEFINITION. Timers and endings at the lock table and at a stretched engine: hold limits (R19), deadlines (R41, R47), the
stretch limit and its claim (R42, R188), and the ending of a stretch. -/

namespace Sys2Proof.Machine

/-- HOLD_LIMIT_EXPIRY (R19): an entry without a hold timer is not removed by time. The REVOKED post goes before those of the
grant pass (R133; log 23). -/
def execHoldLimitExpiry (l : LockId) (p : Port) (s : State) : Host.Outcome State Fault Refusal :=
  match (s.lock l).holderOf p with
  | some h =>
    if h.hold.isSome = true then
      .next ((s.postFromLocks p (.revoked l h.gen .holdLimit) none).releasePath l [p] none)
    else .next s
  | none => .next s

/-- DEADLINE_EXPIRY: the entry is removed; a blocking one ends its stretch with EXPIRED (R41), another is told by WAIT_EXPIRED
under the guard (R47); then the grant pass runs. -/
def execDeadlineExpiry (l : LockId) (p : Port) (s : State) : Host.Outcome State Fault Refusal :=
  match (s.lock l).waiterOf p with
  | some w =>
    if w.deadline.isSome = true then
      let s' := s.setLock l ((s.lock l).withoutWaiter p)
      let s'' := if w.blocking = true then s'.endStretch w .expired else s'.postGuarded w (.waitExpired l) none
      .next (s''.grantPass l none)
    else .next s
  | none => .next s

/-- STRETCH_LIMIT_EXPIRY (R188): the engine stops the timer, stays STRETCHED and sends a limit claim for the lock of the
frame. -/
def execStretchLimitExpiry (p : Port) (s : State) : Host.Outcome State Fault Refusal :=
  let e := s.engine p
  if e.state = .stretched ∧ e.stretchTimer.isSome = true then
    .next (s.setEngine p { e with stretchTimer := none, limitClaim := e.stretchLock })
  else .next s

/-- An entry whose blocking flag is cleared at the stretch limit (R26, R42). -/
def clearBlocking (p : Port) (w : Waiter) : Waiter := if w.port = p then { w with blocking := false } else w

/-- The blocking entry of a port: in the queue or as the handover target (R42). -/
def LockRec.blockingEntry (lk : LockRec) (p : Port) : Option Waiter :=
  (lk.queue.find? fun w => decide (w.port = p) && w.blocking) <|>
    (lk.target.filter fun w => decide (w.port = p) && w.blocking)

/-- LIMIT_CLAIM (R42): if the blocking entry is still there its flag is cleared and PENDING is handed over, under the session
guard (R44); otherwise the claim changes nothing. -/
def execLimitClaim (p : Port) (s : State) : Host.Outcome State Fault Refusal :=
  match (s.engine p).limitClaim with
  | none => .next s
  | some l =>
    let s' := s.setEngine p { s.engine p with limitClaim := none }
    let lk := s.lock l
    match lk.blockingEntry p with
    | none => .next s'
    | some w =>
      .next ((s'.setLock l { lk with queue := lk.queue.map (clearBlocking p), target := lk.target.map (clearBlocking p) }).endStretch
        w .pending)

/-- The status an ending is stored with. -/
def Ending.status : Ending → Status
  | .granted _ _ => .granted
  | .expired => .expired
  | .pending => .pending
  | .routeFault => .routeFault
  | .aborted => .aborted

/-- The data an ending is stored with: mode and generation for GRANTED (R40). -/
def Ending.data : Ending → List Byte
  | .granted mode gen => grantedData mode gen
  | .expired | .pending | .routeFault | .aborted => []

/-- The engine stores an ending as the record of the stretched frame, stops the stretch timer, releases SCL and enters IGNORING
(R188). After the first stage of a RESTART every ending is stored as ABORTED (R158). A limit claim still in flight would
change nothing and is dropped (log 20). -/
def Engine.storeEnding (e : Engine) (ending : Ending) : Engine :=
  let x := if e.abortEndings = true then .aborted else ending
  { e with
    state := .ignoring
    resp := { status := x.status, echo := e.execSeq, data := x.data }
    stretchTimer := none, stretchLock := none, handed := none, limitClaim := none, abortEndings := false
    busTimer := some Config.busTimeout }

/-- STRETCH_ENDING (R188). -/
def execStretchEnding (p : Port) (s : State) : Host.Outcome State Fault Refusal :=
  match (s.engine p).state, (s.engine p).handed with
  | .stretched, some ending => .next (s.setEngine p ((s.engine p).storeEnding ending))
  | _, _ => .next s

end Sys2Proof.Machine
end

