-- ==== Sys2Proof/Machine/Notices.lean ====
section
/-! DEFINITION. The notice block: posts and TAKE_NOTICE (06_notices_and_attention_lines.md). -/

namespace Sys2Proof.Machine

/-- A post that finds a notice queue of an OPEN session (R132): appended, or dropped with the lost flag set when 16 records
stand in it. -/
def NoticeQueue.takePost (q : NoticeQueue) (n : Notice) : NoticeQueue :=
  if q.records.length < Config.noticeCapacity then { q with records := q.records ++ [n] } else { q with lost := true }

/-- A post taken at the notice block against the session state as it stands now (R132, table). From the notice block's own arrival
of a RESTART to the end of the third stage every post is dropped (R146). A RECEIPT or another guarded post of an ended session does
not come here: it is discarded when that session becomes CLOSED (R126, R138; log 33). -/
def State.takePost (s : State) (x : Post) : State :=
  if s.noticesCleared = true then s
  else if (s.session x.port).state = .opened then
    s.setNoticeQueue x.port ((s.noticeQueue x.port).takePost x.notice)
  else s

/-- NOTICE_POST (R132): the oldest post of one sending block (R133). -/
def execNoticePost (source : PostSource) (s : State) : Host.Outcome State Fault Refusal :=
  match source with
  | .lockTable =>
    match s.lockPosts with
    | x :: rest => .next (({ s with lockPosts := rest } : State).takePost x)
    | [] => .next s
  | .sessionBlock =>
    match s.sessionPosts with
    | x :: rest => .next (({ s with sessionPosts := rest } : State).takePost x)
    | [] => .next s
  | .messageBlock =>
    match s.messagePosts with
    | x :: rest => .next (({ s with messagePosts := rest } : State).takePost x)
    | [] => .next s

/-- TAKE_NOTICE past the common checks (R135, R136, R137): the flags item reports the lost flag as it stood and the records
left; every execution clears the flag. -/
def carryTakeNotice (p : Port) (s : State) : State :=
  let q := s.noticeQueue p
  match q.records with
  | [] => (s.setNoticeQueue p { records := [], lost := false }).respond p .empty [noticeFlags q.lost 0]
  | n :: rest =>
    (s.setNoticeQueue p { records := rest, lost := false }).respond p .ok (noticeFlags q.lost rest.length :: n.bytes)

/-- TAKE_NOTICE. -/
def execTakeNotice (p : Port) (seq : Byte) (s : State) : Host.Outcome State Fault Refusal :=
  .next (runFrame p seq .takeNotice (carryTakeNotice p) s)

end Sys2Proof.Machine
end

