-- ==== Sys2Proof/Machine/Routes.lean ====
section
/-! DEFINITION. The route block: orders, timers, SENSE, reports and the four route commands (03_route_groups.md). -/

namespace Sys2Proof.Machine

/-! ### Orders taken at the group (R65, R68) -/

/-- EN is deasserted and the guard timer starts (R65, R82). -/
def Group.startBreak (g : Group) : Group :=
  { g with state := .breaking, enable := false, timer := .guardTime g.guardUnits.toNat }

/-- A break order at a group (R65). In BROKEN no outcome is given: it is set aside (R64; log 24). -/
def Group.takeBreak (g : Group) : Group :=
  match g.state with
  | .made | .making => g.startBreak
  | .breaking | .fault | .unbound | .broken => g

/-- A make order at a group: the select value is set while EN is low and the settle timer starts (R68). In any state but
BROKEN it is set aside. -/
def Group.takeMake (g : Group) (q : Port) : Group :=
  match g.state with
  | .broken => { g with state := .making, select := q, timer := .settleTime Config.settleTime }
  | .unbound | .breaking | .making | .made | .fault => g

/-- BREAK_ORDER (R65): the oldest order in flight, if it is a break order. -/
def execBreakOrder (g : GroupId) (s : State) : Host.Outcome State Fault Refusal :=
  match (s.group g).orders with
  | .breakRoute :: rest => .next (s.setGroup g ({ s.group g with orders := rest } : Group).takeBreak)
  | _ => .next s

/-- MAKE_ORDER (R68): the oldest order in flight, if it is a make order. -/
def execMakeOrder (g : GroupId) (s : State) : Host.Outcome State Fault Refusal :=
  match (s.group g).orders with
  | .makeRoute q :: rest => .next (s.setGroup g (({ s.group g with orders := rest } : Group).takeMake q))
  | _ => .next s

/-! ### Timers of a group (R66, R69, R72, R79) -/

/-- The group enters BROKEN and sends route clear; the select value is kept (R66, R79). -/
def Group.finishBreak (g : Group) : Group :=
  ({ g with state := .broken, timer := .stopped, clearing := false } : Group).sendReport .clear

/-- The group enters MADE and sends route made, naming the selected port (R69, R70). -/
def Group.finishMake (g : Group) : Group :=
  ({ g with state := .made, enable := true, timer := .stopped } : Group).sendReport (.made g.select)

/-- EN is deasserted at once, the select value is kept, the group enters FAULT and sends route fault (R72, R73). -/
def Group.enterFault (g : Group) : Group :=
  ({ g with state := .fault, enable := false, timer := .stopped } : Group).sendReport .fault

/-- GUARD_EXPIRY (R66). -/
def execGuardExpiry (g : GroupId) (s : State) : Host.Outcome State Fault Refusal :=
  match (s.group g).state, (s.group g).timer with
  | .breaking, .guardTime _ => .next (s.setGroup g (s.group g).finishBreak)
  | _, _ => .next s

/-- FAULT_CLEAR_GUARD_EXPIRY (R79). -/
def execFaultClearGuardExpiry (g : GroupId) (s : State) : Host.Outcome State Fault Refusal :=
  match (s.group g).state, (s.group g).clearing, (s.group g).timer with
  | .fault, true, .guardTime _ => .next (s.setGroup g (s.group g).finishBreak)
  | _, _, _ => .next s

/-- The settle time is over: EN is asserted, and the route is made at once or waits for SENSE (R69). -/
def Group.settle (g : Group) : Group :=
  if g.confirmMs = 0 ∨ g.senseFiltered = true then g.finishMake
  else { g with enable := true, timer := .confirmTime g.confirmMs.toNat }

/-- SETTLE_EXPIRY (R69). -/
def execSettleExpiry (g : GroupId) (s : State) : Host.Outcome State Fault Refusal :=
  match (s.group g).state, (s.group g).timer with
  | .making, .settleTime _ => .next (s.setGroup g (s.group g).settle)
  | _, _ => .next s

/-- CONFIRM_EXPIRY (R72). -/
def execConfirmExpiry (g : GroupId) (s : State) : Host.Outcome State Fault Refusal :=
  match (s.group g).state, (s.group g).timer with
  | .making, .confirmTime _ => .next (s.setGroup g (s.group g).enterFault)
  | _, _ => .next s

/-! ### SENSE (R60, R70, R73) -/

/-- The SENSE input goes high: the filtered level rises at once, and a running filter stops (R60). A rise of the filtered level
makes the route of a group in MAKING past its settle time (R70). -/
def Group.senseHigh (g : Group) : Group :=
  let g' := { g with senseInput := true, senseFiltered := true, senseTimer := none }
  if g.senseFiltered = false ∧ g.state = .making ∧ g.enable = true then g'.finishMake else g'

/-- SENSE_RISE (R70). -/
def execSenseRise (g : GroupId) (s : State) : Host.Outcome State Fault Refusal :=
  .next (s.setGroup g (s.group g).senseHigh)

/-- The SENSE input goes low: the 1 ms filter starts when the filtered level is high (R60). -/
def Group.senseLow (g : Group) : Group :=
  if g.senseInput = true then
    { g with senseInput := false
             senseTimer := if g.senseFiltered = true then some Config.senseFilterTime else none }
  else g

/-- SENSE_FALL (R60). -/
def execSenseFall (g : GroupId) (s : State) : Host.Outcome State Fault Refusal :=
  .next (s.setGroup g (s.group g).senseLow)

/-- The filtered level falls: a group in MADE whose confirm time is above 0 faults (R73). -/
def Group.senseLost (g : Group) : Group :=
  let g' := { g with senseFiltered := false, senseTimer := none }
  if g.state = .made ∧ g.confirmMs ≠ 0 then g'.enterFault else g'

/-- SENSE_LOSS (R60, R73): the filter has run for 1 ms without a break. -/
def execSenseLoss (g : GroupId) (s : State) : Host.Outcome State Fault Refusal :=
  match (s.group g).senseTimer with
  | some _ => .next (s.setGroup g (s.group g).senseLost)
  | none => .next s

/-! ### Reports taken at the lock (R67, R71, R74) -/

/-- The report leaves the group's list. -/
def State.dropReport (s : State) (g : GroupId) : State :=
  s.setGroup g { s.group g with reports := (s.group g).reports.tail }

/-- A route clear at a lock: VACATING or FAULTED becomes FREE and the grant pass runs (R67); otherwise it is set aside. -/
def State.takeRouteClear (s : State) (l : LockId) : State :=
  match (s.lock l).state with
  | .vacating | .faulted => (s.setLock l { s.lock l with state := .free, vacatingFrom := none }).grantPass l none
  | .free | .exclusive | .shared | .handover => s

/-- A route made at a lock: HANDOVER grants the target EXCLUSIVE under a new generation; at a VACATING lock, and in any other
state, the report is set aside (R71). -/
def State.takeRouteMade (s : State) (l : LockId) : State :=
  let lk := s.lock l
  match lk.state, lk.target with
  | .handover, some w =>
    (s.setLock l { lk.grant .exclusive [w.port] with target := none }).deliverGrant l w .exclusive (nextGen lk.gen) none
  | _, _ => s

/-- The target's request ends with reason ROUTE_FAULT, by response or by WAIT_FAILED notice (R43). -/
def State.failTarget (s : State) (l : LockId) (w : Waiter) : State :=
  if w.blocking = true then s.endStretch w .routeFault else s.postGuarded w (.waitFailed l) none

/-- A route fault at a lock: it becomes FAULTED; a handover ends, a holder is revoked without the release path, a VACATING lock
is told to no one (R74). -/
def State.takeRouteFault (s : State) (l : LockId) : State :=
  let lk := s.lock l
  match lk.state with
  | .handover =>
    let s' := s.setLock l { lk with state := .faulted, target := none }
    match lk.target with
    | some w => s'.failTarget l w
    | none => s'
  | .exclusive => (s.setLock l { lk with state := .faulted, holders := [] }).postRevoked l .routeFault lk.holders
  | .vacating => s.setLock l { lk with state := .faulted, vacatingFrom := none }
  | .free | .shared | .faulted => s

/-- A report taken at the bound lock of its group; without a bound lock it is set aside (R64). -/
def State.atBoundLock (s : State) (g : GroupId) (f : State → LockId → State) : State :=
  match (s.group g).lock with
  | some l => f s l
  | none => s

/-- ROUTE_CLEAR (R67): the oldest report in flight, if it is a route clear. -/
def execRouteClear (g : GroupId) (s : State) : Host.Outcome State Fault Refusal :=
  match (s.group g).reports with
  | .clear :: _ => .next ((s.dropReport g).atBoundLock g State.takeRouteClear)
  | _ => .next s

/-- ROUTE_MADE (R71): the oldest report in flight, if it is a route made. -/
def execRouteMade (g : GroupId) (s : State) : Host.Outcome State Fault Refusal :=
  match (s.group g).reports with
  | .made _ :: _ => .next ((s.dropReport g).atBoundLock g State.takeRouteMade)
  | _ => .next s

/-- ROUTE_FAULT (R74): the oldest report in flight, if it is a route fault. -/
def execRouteFault (g : GroupId) (s : State) : Host.Outcome State Fault Refusal :=
  match (s.group g).reports with
  | .fault :: _ => .next ((s.dropReport g).atBoundLock g State.takeRouteFault)
  | _ => .next s

/-! ### BIND_ROUTE (R76) -/

/-- The group and the lock are free to be joined (R76 step 2). -/
def bindable (g : Group) (lk : LockRec) : Bool :=
  decide (g.state = .unbound) && lk.group.isNone && decide (lk.state = .free) && lk.queue.isEmpty

/-- The group after an accepted BIND_ROUTE (R76). -/
def Group.bound (g : Group) (l : LockId) (guardTime confirmTime : Byte) : Group :=
  { g with state := .broken, lock := some l, guardUnits := guardTime, confirmMs := confirmTime, select := 0,
           enable := false, timer := .stopped, clearing := false }

/-- BIND_ROUTE past the common checks. -/
def carryBindRoute (p : Port) (group lock guardTime confirmTime : Byte) (s : State) : State :=
  match groupArg group, lockArg lock with
  | some g, some l =>
    if l = 0 ∨ guardTime = 0 then s.refuse p .range
    else if bindable (s.group g) (s.lock l) = false then s.refuse p .busy
    else
      ((s.setGroup g ((s.group g).bound l guardTime confirmTime)).setLock l { s.lock l with group := some g }).respond
        p .ok []
  | _, _ => s.refuse p .range

/-- BIND_ROUTE. -/
def execBindRoute (p : Port) (seq group lock guardTime confirmTime : Byte) (s : State) : Host.Outcome State Fault Refusal :=
  .next (runFrame p seq (.bindRoute group lock guardTime confirmTime) (carryBindRoute p group lock guardTime confirmTime) s)

/-! ### UNBIND_ROUTE (R77) -/

/-- The group and its lock may be parted (R77 step 3). -/
def unbindable (g : Group) (lk : LockRec) : Bool :=
  ((decide (g.state = .broken) && decide (lk.state = .free)) || (decide (g.state = .fault) && decide (lk.state = .faulted))) &&
    lk.queue.isEmpty

/-- The group after an accepted UNBIND_ROUTE (R77). -/
def Group.unbound (g : Group) : Group :=
  { g with state := .unbound, lock := none, guardUnits := 0, confirmMs := 0, select := 0, timer := .stopped,
           clearing := false }

/-- UNBIND_ROUTE past the common checks. -/
def carryUnbindRoute (p : Port) (group : Byte) (s : State) : State :=
  match groupArg group with
  | none => s.refuse p .range
  | some g =>
    if (s.group g).state = .unbound then s.refuse p .state
    else
      match (s.group g).lock with
      | none => s.refuse p .busy
      | some l =>
        if unbindable (s.group g) (s.lock l) = false then s.refuse p .busy
        else
          ((s.setGroup g (s.group g).unbound).setLock l { s.lock l with group := none, state := .free }).respond p .ok []

/-- UNBIND_ROUTE. -/
def execUnbindRoute (p : Port) (seq group : Byte) (s : State) : Host.Outcome State Fault Refusal :=
  .next (runFrame p seq (.unbindRoute group) (carryUnbindRoute p group) s)

/-! ### CLEAR_ROUTE_FAULT (R78) -/

/-- CLEAR_ROUTE_FAULT past the common checks: clearing becomes yes and the guard timer starts afresh. -/
def carryClearRouteFault (p : Port) (group : Byte) (s : State) : State :=
  match groupArg group with
  | none => s.refuse p .range
  | some g =>
    if (s.group g).state ≠ .fault then s.refuse p .state
    else
      (s.setGroup g { s.group g with clearing := true, timer := .guardTime (s.group g).guardUnits.toNat }).respond p .ok []

/-- CLEAR_ROUTE_FAULT. -/
def execClearRouteFault (p : Port) (seq group : Byte) (s : State) : Host.Outcome State Fault Refusal :=
  .next (runFrame p seq (.clearRouteFault group) (carryClearRouteFault p group) s)

/-! ### QUERY_ROUTE (R80) -/

/-- The six data bytes of a QUERY_ROUTE record (11_formats_codes_and_pins.md, "QUERY_ROUTE data"). -/
def Group.queryData (g : Group) : List Byte :=
  [g.state.code,
   match g.lock with
   | some l => natByte l.val
   | none => absentByte,
   natByte g.select.val, g.linesByte, g.guardUnits, g.confirmMs]

/-- QUERY_ROUTE past the common checks. -/
def carryQueryRoute (p : Port) (group : Byte) (s : State) : State :=
  match groupArg group with
  | none => s.refuse p .range
  | some g => s.respond p .ok (s.group g).queryData

/-- QUERY_ROUTE. -/
def execQueryRoute (p : Port) (seq group : Byte) (s : State) : Host.Outcome State Fault Refusal :=
  .next (runFrame p seq (.queryRoute group) (carryQueryRoute p group) s)

end Sys2Proof.Machine
end

