-- ==== Sys2Proof/Machine/Restart.lean ====
section
/-! DEFINITION. RESTART in its three stages (R158 to R160) and RESET (R193). -/

namespace Sys2Proof.Machine

/-! ### The first stage (R158) -/

/-- Each of the three other engines takes the first stage (R158). -/
def State.firstStage (s : State) (requester : Port) : State :=
  { s with engines := Vector.ofFn fun q => if q = requester then s.engine q else (s.engine q).takeFirstStage }

/-- RESTART past the common checks: always accepted; the requester's engine waits in EXECUTING through all three stages
(R158). -/
def carryRestart (p : Port) (s : State) : State :=
  let s' := s.firstStage p
  ({ s' with restart := some { requester := p, sessionTaken := false, lockTaken := false, messageTaken := false,
                               noticeTaken := false } } : State).waitFor p .restartStages

/-- RESTART. -/
def execRestart (p : Port) (seq : Byte) (s : State) : Host.Outcome State Fault Refusal :=
  .next (runFrame p seq .restart (carryRestart p) s)

/-! ### The second stage (R159) -/

/-- The RESTART once a block has taken the second stage. -/
def Restart.mark (r : Restart) : RestartBlock → Restart
  | .session => { r with sessionTaken := true }
  | .lockAndRoute => { r with lockTaken := true }
  | .message => { r with messageTaken := true }
  | .notice => { r with noticeTaken := true }

/-- A session record at RESTART (R105). Of its teardown only a step still in flight is left: the session block hands no further
one. -/
def Session.atRestart (x : Session) (step : Option Teardown) : Session :=
  { x.finish with endReason := .restart, teardown := step.filter fun t => !t.stepTaken }

/-- The session block takes the RESTART, all four records as one arrival (R105). A guarded post still in flight is of an ended
session and is discarded (R138; log 33). -/
def State.restartSessions (s : State) : State :=
  ({ s with sessions := Vector.ofFn fun p => (s.session p).atRestart (s.teardownStep p) } : State).discardPosts fun _ => true

/-- The RESTART has ended every teardown (R105). -/
def State.endTeardowns (s : State) : State :=
  { s with sessions := Vector.ofFn fun p => { s.session p with teardown := none } }

/-- A lock record at RESTART (R25): `select` is the select value of the bound group. -/
def LockRec.atRestart (lk : LockRec) (select : GroupId → Port) : LockRec :=
  let cleared := { lk with holders := [], queue := [], target := none, vacatingFrom := none }
  match lk.group with
  | none => { cleared with state := .free }
  | some g =>
    match lk.state with
    | .exclusive | .handover | .shared => { cleared with state := .vacating, vacatingFrom := some (select g) }
    | .vacating => { cleared with vacatingFrom := lk.vacatingFrom }
    | .free | .faulted => cleared

/-- A group record at RESTART (R82): orders in flight are discarded and reports kept. -/
def Group.atRestart (g : Group) : Group :=
  let g' := { g with orders := [] }
  match g.state with
  | .making | .made => g'.startBreak
  | .broken => if g.orders.any (fun o => decide (o ≠ .breakRoute)) = true then g'.startBreak else g'
  | .breaking | .fault | .unbound => g'

/-- Some lock holds a blocking entry of the port. -/
def State.hasBlockingEntry (s : State) (p : Port) : Bool := allLocks.any fun l => (s.lock l).blocks p

/-- The lock table and the route block take the RESTART (R25, R52, R82): blocking entries hand ABORTED (R44). -/
def State.restartLocks (s : State) : State :=
  { s with
    engines := Vector.ofFn fun p =>
      if s.hasBlockingEntry p = true then { s.engine p with handed := (s.engine p).handed <|> some .aborted }
      else s.engine p
    locks := Vector.ofFn fun l => (s.lock l).atRestart fun g => (s.group g).select
    groups := Vector.ofFn fun g => (s.group g).atRestart }

/-- The message block takes the RESTART (R129): quotas and send caps are kept. -/
def State.restartMessages (s : State) : State :=
  { s with
    cells := Vector.replicate 64 none
    inbounds := Vector.ofFn fun p => { s.inbound p with queue := [], number := 0 } }

/-- The notice block takes the RESTART (R146). -/
def State.restartNotices (s : State) : State :=
  { s with notices := Vector.replicate 4 NoticeQueue.reset }

/-- What one block does when it takes the second stage (R159, table). From then on the block finds no teardown step in flight to it
(`State.teardownStep`, R105). -/
def State.takeSecondStage (s : State) : RestartBlock → State
  | .session => s.restartSessions
  | .lockAndRoute => s.restartLocks
  | .message => s.restartMessages
  | .notice => s.restartNotices

/-- Every engine has taken the first stage (R158). -/
def State.firstStageTaken (s : State) : Bool := allPorts.all fun p => !(s.engine p).stageDeferred

/-- RESTART_SECOND_STAGE (R159): one block takes it, once the first stage has been taken everywhere. -/
def execRestartSecondStage (block : RestartBlock) (s : State) : Host.Outcome State Fault Refusal :=
  match s.restart with
  | some r =>
    if s.firstStageTaken = true ∧ r.takenBy block = false then
      .next { s.takeSecondStage block with restart := some (r.mark block) }
    else .next s
  | none => .next s

/-! ### The third stage (R160) -/

/-- The checks and effects of a command past the common checks. -/
def carryOut (p : Port) (cmd : HostCommand) : State → State :=
  match cmd with
  | .status => carryStatus p
  | .openSession lease priority threshold flags => carryOpen p lease priority threshold flags
  | .close => carryClose p
  | .acquire lock mode wait deadline => carryAcquire p lock mode wait deadline
  | .release lock generation => carryRelease p lock generation
  | .cancel lock => carryCancel p lock
  | .downgrade lock generation => carryDowngrade p lock generation
  | .query lock => carryQuery p lock
  | .holdings => carryHoldings p
  | .send dest tag flags payload => carrySend p dest tag flags payload
  | .take => carryTake p
  | .peek => carryPeek p
  | .flush => carryFlush p
  | .takeNotice => carryTakeNotice p
  | .setLockAttr lock shared hold => carrySetLockAttr p lock shared hold
  | .setPortLimits port cap quota sendCap stretch => carrySetPortLimits p port cap quota sendCap stretch
  | .bindRoute group lock guardTime confirmTime => carryBindRoute p group lock guardTime confirmTime
  | .unbindRoute group => carryUnbindRoute p group
  | .clearRouteFault group => carryClearRouteFault p group
  | .forceRelease lock => carryForceRelease p lock
  | .expel port => carryExpel p port
  | .restart => carryRestart p
  | .queryRoute group => carryQueryRoute p group

/-- The engine of a port is released at the end of the third stage: a held frame is executed, without a renewal of the lease; a
CLOSE overtaken by the RESTART releases its clock line with the record that stands (R158, R160). -/
def State.releaseEngine (s : State) (p : Port) : State :=
  match (s.engine p).state, (s.engine p).wait with
  | .executing, .heldFrame cmd => repeatStep p cmd (carryOut p cmd) (s.waitFor p .nothing)
  | .executing, .restartEnd => s.setEngine p (s.engine p).leaveExecuting
  | _, _ => s

/-- The engines of some ports are released one after the other. -/
def State.releaseEngines (s : State) : List Port → State
  | [] => s
  | p :: ps => (s.releaseEngine p).releaseEngines ps

/-- Every block has taken the second stage. -/
def Restart.complete (r : Restart) : Bool := r.sessionTaken && r.lockTaken && r.messageTaken && r.noticeTaken

/-- OK is stored as the response to the RESTART frame (R160). -/
def State.answerRestart (s : State) (requester : Port) : State :=
  match (s.engine requester).state, (s.engine requester).wait with
  | .executing, .restartStages => s.respond requester .ok []
  | _, _ => s

/-- The order in which the engines are released: the ports named first, then the others in ascending order (log 17). An engine
already released is not released again. -/
def releaseOrder (order : List Port) : List Port := order ++ allPorts

/-- RESTART_THIRD_STAGE (R160). Every block has taken the RESTART, so no teardown is left (R105). -/
def execRestartThirdStage (order : List Port) (s : State) : Host.Outcome State Fault Refusal :=
  match s.restart with
  | some r =>
    if r.complete = true then
      .next ((({ s.endTeardowns with restart := none } : State).answerRestart r.requester).releaseEngines (releaseOrder order))
    else .next s
  | none => .next s

/-! ### RESET (R193) -/

/-- The strap value: AS1 is the high bit and AS0 the low bit (R181). -/
def strapValue (as1 as0 : Bool) : BitVec 2 := BitVec.ofBool as1 ++ BitVec.ofBool as0

/-- RESET: every block in its starting state, the straps sampled (R193, R24, R81, R104, R128, R145, R161). The queue of commands
is not the part's, and the counter of free samples runs on. -/
def execReset (as1 as0 : Bool) (s : State) : Host.Outcome State Fault Refusal :=
  .next { State.reset with
    engines := Vector.replicate 4 { Engine.reset with strap := strapValue as1 as0 }
    sclSample := s.sclSample
    pending := s.pending }

end Sys2Proof.Machine
end

