-- ==== Sys2Proof/Machine/Time.lean ====
section
/-! DEFINITION. The part on its own: the claims in flight and the due timers, and the time base (log 2, 12, 13, 14). -/

namespace Sys2Proof.Machine

/-! ### Claims in flight and due timers -/

/-- The claims of an engine: an ending handed over, and a limit claim sent (R42, R188). -/
def State.engineClaims (s : State) (p : Port) : List Instr :=
  let e := s.engine p
  (if e.state = .stretched ∧ e.handed.isSome = true then [Instr.stretchEnding p] else []) ++
    (if e.limitClaim.isSome = true then [Instr.limitClaim p] else [])

/-- The oldest order to a group and the oldest report from it (R64). -/
def State.groupClaims (s : State) (g : GroupId) : List Instr :=
  (match (s.group g).orders with
   | .breakRoute :: _ => [Instr.breakOrder g]
   | .makeRoute _ :: _ => [Instr.makeOrder g]
   | [] => []) ++
    (match (s.group g).reports with
     | .clear :: _ => [Instr.routeClear g]
     | .made _ :: _ => [Instr.routeMade g]
     | .fault :: _ => [Instr.routeFault g]
     | [] => [])

/-- The oldest post of each sending block (R133). -/
def State.postClaims (s : State) : List Instr :=
  (if s.lockPosts.isEmpty = true then [] else [Instr.noticePost .lockTable]) ++
    (if s.sessionPosts.isEmpty = true then [] else [Instr.noticePost .sessionBlock]) ++
    (if s.messagePosts.isEmpty = true then [] else [Instr.noticePost .messageBlock])

/-- The teardown steps that can be taken now (R97 to R100). -/
def State.teardownClaims (s : State) (p : Port) : List Instr :=
  match s.teardownStep p with
  | none => []
  | some t =>
    match t.step with
    | .holdings => (allLocks.filter fun l => s.lockStepDue p .holdings l).map (Instr.teardownHoldings p)
    | .waits => (allLocks.filter fun l => s.lockStepDue p .waits l).map (Instr.teardownWaits p)
    | .flush => if t.taken = true then [] else [Instr.teardownFlush p]
    | .peerEnded => if t.taken = true then [] else [Instr.teardownPeerEnded p]
    | .finish => if t.taken = true then [] else [Instr.teardownEnd p]

/-- The port limits not yet taken (R154). -/
def State.limitClaims (s : State) (p : Port) : List Instr :=
  match (s.engine p).state, (s.engine p).wait with
  | .executing, .portLimits h =>
    ([LimitBlock.session, .message, .engine].filter fun b => !h.takenBy b).map (Instr.newPortLimitsTaken p)
  | _, _ => []

/-- The stages of a RESTART that can be taken now (R158 to R160). -/
def State.restartClaims (s : State) : List Instr :=
  match s.restart with
  | none => []
  | some r =>
    if r.complete = true then [Instr.restartThirdStage []]
    else if s.firstStageTaken = true then
      ([RestartBlock.session, .lockAndRoute, .message, .notice].filter fun b => !r.takenBy b).map Instr.restartSecondStage
    else []

/-- The due timers of a lock: hold limits (R19) and deadlines (R46). -/
def State.lockDue (s : State) (l : LockId) : List Instr :=
  ((allPorts.filter fun p =>
      match (s.lock l).holderOf p with
      | some h => decide (h.hold = some 0)
      | none => false).map (Instr.holdLimitExpiry l)) ++
    ((allPorts.filter fun p =>
      match (s.lock l).waiterOf p with
      | some w => decide (w.deadline = some 0)
      | none => false).map (Instr.deadlineExpiry l))

/-- The due timers of a port: the lease (R91), the stretch timer (R188), the bus timeout (R191). -/
def State.portDue (s : State) (p : Port) : List Instr :=
  (if (s.session p).state = .opened ∧ (s.session p).lease = 0 then [Instr.leaseExpiry p] else []) ++
    (if (s.engine p).state = .stretched ∧ (s.engine p).stretchTimer = some 0 then [Instr.stretchLimitExpiry p] else []) ++
    (match (s.engine p).state, (s.engine p).busTimer with
     | .receiving, some 0 => [Instr.busTimeout p]
     | .sending, some 0 => [Instr.busTimeout p]
     | .ignoring, some 0 => [Instr.busTimeout p]
     | _, _ => [])

/-- The due timers of a group: guard, settle and confirm (R59) and the SENSE filter (R60). -/
def State.groupDue (s : State) (g : GroupId) : List Instr :=
  (match (s.group g).state, (s.group g).clearing, (s.group g).timer with
   | .breaking, _, .guardTime 0 => [Instr.guardExpiry g]
   | .fault, true, .guardTime 0 => [Instr.faultClearGuardExpiry g]
   | .making, _, .settleTime 0 => [Instr.settleExpiry g]
   | .making, _, .confirmTime 0 => [Instr.confirmExpiry g]
   | _, _, _ => []) ++
    (if (s.group g).senseTimer = some 0 then [Instr.senseLoss g] else [])

/-- Everything the part can take on its own now, in the fixed order of log 2: claims in flight first, then due timers. -/
def State.ownClaims (s : State) : List Instr :=
  allPorts.flatMap s.engineClaims ++ allGroups.flatMap s.groupClaims ++ s.postClaims ++
    allPorts.flatMap s.limitClaims ++ allPorts.flatMap s.teardownClaims ++ s.restartClaims ++
    allGroups.flatMap s.groupDue ++ allLocks.flatMap s.lockDue ++ allPorts.flatMap s.portDue

/-! ### The time base -/

/-- A remaining time counted down; it stays at 0 until its expiry is taken. -/
def countDown (w : Word16) : Word16 := if w = 0 then 0 else w - 1

/-- The hold and deadline timers of a lock, one millisecond on (R19, R46). -/
def LockRec.tickMs (lk : LockRec) : LockRec :=
  { lk with
    holders := lk.holders.map fun h => { h with hold := h.hold.map countDown }
    queue := lk.queue.map fun w => { w with deadline := w.deadline.map countDown } }

/-- The lease of an OPEN session, one millisecond on (R91). -/
def Session.tickMs (x : Session) : Session := if x.state = .opened then { x with lease := countDown x.lease } else x

/-- The bus-timeout timer, one millisecond on, by what the host does with SCL: it stops when SCL has risen, is loaded at each fall
and counts down while SCL stays low (R191; log 14). -/
def countBusTimer (timer : Option Nat) (scl : Config.SclLevel) : Option Nat :=
  match scl, timer with
  | .high, _ => none
  | .fell, _ => some Config.busTimeout
  | .low, some n => some (n - 1)
  | .low, none => some Config.busTimeout

/-- The stretch timer and the bus-timeout timer of an engine, one millisecond on. The bus-timeout timer is stopped in IDLE,
EXECUTING and STRETCHED (R191). -/
def Engine.tickMs (e : Engine) (scl : Config.SclLevel) : Engine :=
  { e with
    stretchTimer := e.stretchTimer.map fun n => n - 1
    busTimer :=
      match e.state with
      | .receiving | .sending | .ignoring => countBusTimer e.busTimer scl
      | .idle | .executing | .stretched => none }

/-- The guard and settle timers of a group and its SENSE filter, 10 µs on (R59, R60). -/
def Group.tickUnit (g : Group) : Group :=
  { g with
    timer :=
      match g.timer with
      | .guardTime n => .guardTime (n - 1)
      | .settleTime n => .settleTime (n - 1)
      | .confirmTime n => .confirmTime n
      | .stopped => .stopped
    senseTimer := g.senseTimer.map fun n => n - 1 }

/-- The confirm timer of a group, one millisecond on (R59). -/
def Group.tickMs (g : Group) : Group :=
  { g with
    timer :=
      match g.timer with
      | .confirmTime n => .confirmTime (n - 1)
      | .guardTime n => .guardTime n
      | .settleTime n => .settleTime n
      | .stopped => .stopped }

/-- One millisecond on the 1 ms time base. -/
def State.tickMs (s : State) : State :=
  { s with
    engines := Vector.ofFn fun p => (s.engine p).tickMs (Config.hostScl s.sclSample p)
    sessions := Vector.ofFn fun p => (s.session p).tickMs
    locks := Vector.ofFn fun l => (s.lock l).tickMs
    groups := Vector.ofFn fun g => (s.group g).tickMs
    msPhase := 0
    sclSample := s.sclSample + 1 }

/-- 10 µs pass: the 10 µs timers count, and at every hundredth unit the 1 ms timers count (00_scope.md, time base). -/
def State.tick (s : State) : State :=
  let s' := { s with groups := Vector.ofFn fun g => (s.group g).tickUnit, msPhase := s.msPhase + 1 }
  if Config.unitsPerMs ≤ s'.msPhase then s'.tickMs else s'

end Sys2Proof.Machine
end

