-- ==== Sys2Proof/Machine/Dispatch.lean ====
section
/-! DEFINITION. One arm per command. -/

namespace Sys2Proof.Machine

def exec (i : Instr) (s : State) : Host.Outcome State Fault Refusal :=
  match i with
  | .status p seq => Sys2Proof.Machine.execStatus p seq s
  | .openSession p seq lease priority threshold flags => Sys2Proof.Machine.execOpenSession p seq lease priority threshold flags s
  | .close p seq => Sys2Proof.Machine.execClose p seq s
  | .acquire p seq lock mode wait deadline => Sys2Proof.Machine.execAcquire p seq lock mode wait deadline s
  | .release p seq lock generation => Sys2Proof.Machine.execRelease p seq lock generation s
  | .cancel p seq lock => Sys2Proof.Machine.execCancel p seq lock s
  | .downgrade p seq lock generation => Sys2Proof.Machine.execDowngrade p seq lock generation s
  | .query p seq lock => Sys2Proof.Machine.execQuery p seq lock s
  | .holdings p seq => Sys2Proof.Machine.execHoldings p seq s
  | .send p seq dest tag flags payload => Sys2Proof.Machine.execSend p seq dest tag flags payload s
  | .take p seq => Sys2Proof.Machine.execTake p seq s
  | .peek p seq => Sys2Proof.Machine.execPeek p seq s
  | .flush p seq => Sys2Proof.Machine.execFlush p seq s
  | .takeNotice p seq => Sys2Proof.Machine.execTakeNotice p seq s
  | .setLockAttr p seq lock shared hold => Sys2Proof.Machine.execSetLockAttr p seq lock shared hold s
  | .setPortLimits p seq port cap quota sendCap stretch => Sys2Proof.Machine.execSetPortLimits p seq port cap quota sendCap stretch s
  | .bindRoute p seq group lock guardTime confirmTime => Sys2Proof.Machine.execBindRoute p seq group lock guardTime confirmTime s
  | .unbindRoute p seq group => Sys2Proof.Machine.execUnbindRoute p seq group s
  | .clearRouteFault p seq group => Sys2Proof.Machine.execClearRouteFault p seq group s
  | .forceRelease p seq lock => Sys2Proof.Machine.execForceRelease p seq lock s
  | .expel p seq port => Sys2Proof.Machine.execExpel p seq port s
  | .restart p seq => Sys2Proof.Machine.execRestart p seq s
  | .queryRoute p seq group => Sys2Proof.Machine.execQueryRoute p seq group s
  | .restartSecondStage block => Sys2Proof.Machine.execRestartSecondStage block s
  | .restartThirdStage order => Sys2Proof.Machine.execRestartThirdStage order s
  | .reset as1 as0 => Sys2Proof.Machine.execReset as1 as0 s
  | .busCondition p event => Sys2Proof.Machine.execBusCondition p event s
  | .addressByte p byte => Sys2Proof.Machine.execAddressByte p byte s
  | .linkRefusal p bytes => Sys2Proof.Machine.execLinkRefusal p bytes s
  | .readTransaction p count nack => Sys2Proof.Machine.execReadTransaction p count nack s
  | .busTimeout p => Sys2Proof.Machine.execBusTimeout p s
  | .holdLimitExpiry l p => Sys2Proof.Machine.execHoldLimitExpiry l p s
  | .deadlineExpiry l p => Sys2Proof.Machine.execDeadlineExpiry l p s
  | .stretchLimitExpiry p => Sys2Proof.Machine.execStretchLimitExpiry p s
  | .limitClaim p => Sys2Proof.Machine.execLimitClaim p s
  | .stretchEnding p => Sys2Proof.Machine.execStretchEnding p s
  | .leaseExpiry p => Sys2Proof.Machine.execLeaseExpiry p s
  | .teardownHoldings p l => Sys2Proof.Machine.execTeardownHoldings p l s
  | .teardownWaits p l => Sys2Proof.Machine.execTeardownWaits p l s
  | .teardownFlush p => Sys2Proof.Machine.execTeardownFlush p s
  | .teardownPeerEnded p => Sys2Proof.Machine.execTeardownPeerEnded p s
  | .teardownEnd p => Sys2Proof.Machine.execTeardownEnd p s
  | .newPortLimitsTaken requester block => Sys2Proof.Machine.execNewPortLimitsTaken requester block s
  | .noticePost source => Sys2Proof.Machine.execNoticePost source s
  | .breakOrder g => Sys2Proof.Machine.execBreakOrder g s
  | .makeOrder g => Sys2Proof.Machine.execMakeOrder g s
  | .guardExpiry g => Sys2Proof.Machine.execGuardExpiry g s
  | .faultClearGuardExpiry g => Sys2Proof.Machine.execFaultClearGuardExpiry g s
  | .settleExpiry g => Sys2Proof.Machine.execSettleExpiry g s
  | .confirmExpiry g => Sys2Proof.Machine.execConfirmExpiry g s
  | .senseRise g => Sys2Proof.Machine.execSenseRise g s
  | .senseFall g => Sys2Proof.Machine.execSenseFall g s
  | .senseLoss g => Sys2Proof.Machine.execSenseLoss g s
  | .routeClear g => Sys2Proof.Machine.execRouteClear g s
  | .routeMade g => Sys2Proof.Machine.execRouteMade g s
  | .routeFault g => Sys2Proof.Machine.execRouteFault g s

end Sys2Proof.Machine
end

