-- ==== Sys2Proof/Machine/Step.lean ====
section
/-! DEFINITION. One step of the block: the command at the front of the queue, or the part on its own. -/

namespace Sys2Proof.Machine

/-- What the block does when no command waits: it takes the first claim in flight or due timer of its own; when there is none,
10 µs pass (log 2). -/
def idleStep (s : State) : Host.Outcome State Fault Refusal :=
  match s.ownClaims with
  | c :: _ => exec c s
  | [] => .next s.tick

/-- One step: the command at the front of the queue is carried out with the queue's rest; on an empty queue the part works on
its own. -/
def step (s : State) : Host.Outcome State Fault Refusal :=
  match s.pending with
  | c :: rest => exec c { s with pending := rest }
  | [] => idleStep s

/-- The state with the command that a table word spells put at the front of the queue; unchanged where the word spells none. -/
def State.withFetchWord (s : State) (nbits w : Nat) : State :=
  match decodeTableWord nbits w with
  | some c => { s with pending := c :: s.pending }
  | none => s

end Sys2Proof.Machine
end

