-- ==== Sys2Proof/Safety.lean ====
section
/-! DEFINITION. The terms in which claims about the part are stated: what a step leaves unchanged, when a frame is carried out
and how it is answered, and what a sound lock, group, pool, session, engine and RESTART are. -/

namespace Sys2Proof

open Machine

/-- The command of the queue that stands for a frame of port `p`. -/
def HostCommand.instr (p : Port) (seq : Byte) : HostCommand → Instr
  | .status => .status p seq
  | .openSession lease priority threshold flags => .openSession p seq lease priority threshold flags
  | .close => .close p seq
  | .acquire lock mode wait deadline => .acquire p seq lock mode wait deadline
  | .release lock generation => .release p seq lock generation
  | .cancel lock => .cancel p seq lock
  | .downgrade lock generation => .downgrade p seq lock generation
  | .query lock => .query p seq lock
  | .holdings => .holdings p seq
  | .send dest tag flags payload => .send p seq dest tag flags payload
  | .take => .take p seq
  | .peek => .peek p seq
  | .flush => .flush p seq
  | .takeNotice => .takeNotice p seq
  | .setLockAttr lock shared hold => .setLockAttr p seq lock shared hold
  | .setPortLimits port cap quota sendCap stretch => .setPortLimits p seq port cap quota sendCap stretch
  | .bindRoute group lock guardTime confirmTime => .bindRoute p seq group lock guardTime confirmTime
  | .unbindRoute group => .unbindRoute p seq group
  | .clearRouteFault group => .clearRouteFault p seq group
  | .forceRelease lock => .forceRelease p seq lock
  | .expel port => .expel p seq port
  | .restart => .restart p seq
  | .queryRoute group => .queryRoute p seq group

/-- Every argument of the frame lies in its range (R175 and the first check of each command's own rule). -/
def HostCommand.inRange (p : Port) : HostCommand → Bool
  | .openSession lease priority threshold flags =>
    decide (100 ≤ lease.toNat ∧ lease.toNat ≤ 60000 ∧ priority.toNat ≤ 3 ∧ threshold.toNat ≤ 32 ∧ flags.toNat ≤ 1)
  | .acquire lock mode wait _ => decide (lock.toNat ≤ 31 ∧ mode.toNat ≤ 1 ∧ wait.toNat ≤ 2)
  | .release lock _ | .cancel lock | .downgrade lock _ | .query lock => decide (lock.toNat ≤ 31)
  | .send dest _ flags _ => decide ((dest = 0xFF ∨ (dest.toNat ≤ 3 ∧ dest.toNat ≠ p.val)) ∧ flags.toNat ≤ 1)
  | .setLockAttr lock shared _ => decide (1 ≤ lock.toNat ∧ lock.toNat ≤ 31 ∧ shared.toNat ≤ 1)
  | .setPortLimits port cap quota sendCap stretch =>
    decide (port.toNat ≤ 3 ∧ cap.toNat ≤ 3 ∧ 1 ≤ quota.toNat ∧ quota.toNat ≤ 32 ∧ 1 ≤ sendCap.toNat ∧
      sendCap.toNat ≤ 64 ∧ 1 ≤ stretch.toNat ∧ stretch.toNat ≤ 50)
  | .bindRoute group lock guardTime _ =>
    decide (group.toNat ≤ 3 ∧ 1 ≤ lock.toNat ∧ lock.toNat ≤ 31 ∧ 1 ≤ guardTime.toNat)
  | .unbindRoute group | .clearRouteFault group | .queryRoute group => decide (group.toNat ≤ 3)
  | .forceRelease lock => decide (1 ≤ lock.toNat ∧ lock.toNat ≤ 31)
  | .expel port => decide (port.toNat ≤ 3)
  | .status | .close | .holdings | .take | .peek | .flush | .takeNotice | .restart => true

end Sys2Proof

namespace Sys2Proof.Machine

/-- The value of a wait mode in an ACQUIRE frame ("Enumerated Values"). -/
def WaitMode.code : WaitMode → Byte
  | .tryNow => 0
  | .queue => 1
  | .block => 2

/-- A lock, port or group number, or a priority, as the argument byte that names it. -/
def argByte {n : Nat} (i : Fin n) : Byte := natByte i.val

/-! ### What a step leaves unchanged -/

/-- The records a step may change. -/
structure Touched where
  engines : List Port := []
  sessions : List Port := []
  locks : List LockId := []
  groups : List GroupId := []
  cells : List CellId := []
  inbounds : List Port := []
  notices : List Port := []
  limits : List Port := []
  lockPosts : Bool := false
  sessionPosts : Bool := false
  messagePosts : Bool := false
  restart : Bool := false

/-- Every record of the part but those of `x` is in `t` as it was in `s`. -/
structure UnchangedBut (x : Touched) (s t : State) : Prop where
  engines : ∀ p, p ∉ x.engines → t.engine p = s.engine p
  sessions : ∀ p, p ∉ x.sessions → t.session p = s.session p
  locks : ∀ l, l ∉ x.locks → t.lock l = s.lock l
  groups : ∀ g, g ∉ x.groups → t.group g = s.group g
  cells : ∀ c, c ∉ x.cells → t.cell c = s.cell c
  inbounds : ∀ p, p ∉ x.inbounds → t.inbound p = s.inbound p
  notices : ∀ p, p ∉ x.notices → t.noticeQueue p = s.noticeQueue p
  limits : ∀ p, p ∉ x.limits → t.limit p = s.limit p
  lockPosts : x.lockPosts = false → t.lockPosts = s.lockPosts
  sessionPosts : x.sessionPosts = false → t.sessionPosts = s.sessionPosts
  messagePosts : x.messagePosts = false → t.messagePosts = s.messagePosts
  restart : x.restart = false → t.restart = s.restart
  msPhase : t.msPhase = s.msPhase
  sclSample : t.sclSample = s.sclSample
  pending : t.pending = s.pending

/-! ### Sound engines (R182, R186, R191) -/

/-- What the engine waits for lets it put off the first stage of a RESTART (R158; log 16). -/
def ExecWait.defersStage : ExecWait → Bool
  | .teardownOf _ | .portLimits _ => true
  | .nothing | .ownTeardown | .restartStages | .heldFrame _ | .restartEnd => false

/-- The fields of an engine fit its state: a frame only in a write, a snapshot only in a read, a wait only in EXECUTING, the
stretch fields only in STRETCHED, and no bus-timeout timer in IDLE, EXECUTING and STRETCHED. -/
abbrev Engine.Sound (e : Engine) : Prop :=
  (e.frame ≠ [] → e.addressed = true) ∧
  (e.expected.isSome = true → e.addressed = true) ∧
  (e.addressed = true → e.state = .receiving) ∧
  (e.snapshot.isSome = true ↔ e.state = .sending) ∧
  (e.wait ≠ .nothing → e.state = .executing) ∧
  (e.stageDeferred = true → e.state = .executing ∧ e.wait.defersStage = true) ∧
  (e.stretchLock.isSome = true ↔ e.state = .stretched) ∧
  (e.stretchTimer.isSome = true → e.state = .stretched) ∧
  (e.limitClaim.isSome = true → e.limitClaim = e.stretchLock) ∧
  (e.abortEndings = true → e.state = .stretched) ∧
  (e.handed.isSome = true → e.state = .stretched) ∧
  (e.busTimer.isSome = true → e.state = .receiving ∨ e.state = .sending ∨ e.state = .ignoring)

/-! ### A frame that is carried out (R163, R166, R173, R185) -/

/-- The frame comes with a repeated START that cuts off another frame half written (R183). -/
def Engine.cuts (e : Engine) (bytes : List Byte) : Bool :=
  decide (e.state = .receiving) && !e.frame.isEmpty && !e.frame.isPrefixOf bytes

/-- The engine in EXECUTING with a new frame: the frame buffer is empty, the memory names the frame, the SEQ is kept for the
echo and SCL is held (R165, R185). -/
def Engine.carrying (e : Engine) (seq : Byte) (cmd : HostCommand) : Engine :=
  { e with
    state := .executing, addressed := false, frame := [], expected := none, check := 0x00, snapshot := none
    memory := some (seq, cmd.code), linkError := e.linkError || e.cuts (cmd.frameBytes seq), busTimer := none
    execSeq := seq, wait := .nothing, acked := true }

/-- The session with its lease renewed (R90). -/
def Session.renewed (x : Session) : Session := if x.state = .opened then { x with lease := x.leasePeriod } else x

/-- The part with a new frame of port `p` in EXECUTING and the lease renewed; nothing else has changed. -/
def State.carrying (s : State) (p : Port) (seq : Byte) (cmd : HostCommand) : State :=
  (s.setEngine p ((s.engine p).carrying seq cmd)).setSession p (s.session p).renewed

/-- The engine stores the record of the frame, releases SCL and enters IGNORING (R170, R186). -/
def State.answer (s : State) (p : Port) (st : Status) (data : List Byte) : State :=
  s.setEngine p
    { s.engine p with
      state := .ignoring, resp := { status := st, echo := (s.engine p).execSeq, data := data }, wait := .nothing
      busTimer := some 35 }

/-- The engine stays in EXECUTING and waits (R186). -/
def State.holdOn (s : State) (p : Port) (w : ExecWait) : State := s.setEngine p { s.engine p with wait := w }

/-- The engine goes from EXECUTING to STRETCHED for a lock, and loads its stretch timer from its copy (R187). -/
def State.stretch (s : State) (p : Port) (l : LockId) : State :=
  s.setEngine p
    { s.engine p with
      state := .stretched, stretchTimer := some (s.engine p).stretchCopy.toNat, stretchLock := some l }

/-- The engine of port `p` is sound and can receive: it does not hold SCL (R180, R182). -/
abbrev CanReceive (s : State) (p : Port) : Prop :=
  (s.engine p).Sound ∧ (s.engine p).state ≠ .executing ∧ (s.engine p).state ≠ .stretched

/-- A frame of port `p` comes to the repeat step: the engine can receive, no RESTART of another port is in progress, and the link
accepts the length. -/
abbrev FrameComes (s : State) (p : Port) (cmd : HostCommand) : Prop :=
  CanReceive s p ∧ s.restart.all (fun r => decide (r.requester = p)) = true ∧ cmd.lenAccepted = true

/-- A frame of port `p` passes the repeat step as a new frame: the memory does not hold its SEQ (R166). -/
abbrev FrameArrives (s : State) (p : Port) (seq : Byte) (cmd : HostCommand) : Prop :=
  FrameComes s p cmd ∧ (s.engine p).memory.map Prod.fst ≠ some seq

/-- The frame also passes the session step and the authority step (R174, R148). -/
abbrev CarriedOut (s : State) (p : Port) (seq : Byte) (cmd : HostCommand) : Prop :=
  FrameArrives s p seq cmd ∧ cmd.passesSession (s.session p).state = true ∧
    (cmd.isConfiguration = true → s.hasAuthority p = true)

/-! ### Sound locks (R2, R3, R6, R7, R27, R36) -/

/-- The holder entries fit the state of the lock (R2, R3). -/
abbrev LockRec.HoldersFit (lk : LockRec) : Prop :=
  (lk.state = .exclusive → lk.holders.length = 1 ∧ ∀ h ∈ lk.holders, h.mode = .exclusive) ∧
  (lk.state = .shared →
    lk.holders ≠ [] ∧ (∀ h ∈ lk.holders, h.mode = .shared) ∧ (lk.holders.map Holder.port).Nodup) ∧
  (lk.state ≠ .exclusive → lk.state ≠ .shared → lk.holders = []) ∧
  (∀ h ∈ lk.holders, h.gen ≠ 0)

/-- The waiter queue: a port at most once, empty on a FREE lock, and an UPGRADE entry only at the head, naming a shared holder
(R2, R27). -/
abbrev LockRec.QueueFits (lk : LockRec) : Prop :=
  (lk.queue.map Waiter.port).Nodup ∧ (lk.state = .free → lk.queue = []) ∧
  (∀ w ∈ lk.queue.tail, w.req ≠ .upgrade) ∧
  (∀ w ∈ lk.queue, w.req = .upgrade → lk.state = .shared ∧ w.port ∈ lk.holders.map Holder.port)

/-- Vacating-from and handover target stand exactly in their states, the target without a deadline and out of the queue (R1,
R27, R36). -/
abbrev LockRec.PlacesFit (lk : LockRec) : Prop :=
  (lk.vacatingFrom.isSome = true ↔ lk.state = .vacating) ∧ (lk.target.isSome = true ↔ lk.state = .handover) ∧
  (∀ w ∈ lk.target, w.req = .exclusive ∧ w.deadline = none ∧ w.port ∉ lk.queue.map Waiter.port)

/-- Sharing and binding: no SHARED holding or waiter where sharing is off or the lock is bound, the states of a route only on a
bound lock, and the fixed attributes of L0 (R2, R6, R7). -/
abbrev LockRec.AttributesFit (l : LockId) (lk : LockRec) : Prop :=
  (lk.state = .shared → lk.sharedAllowed = true ∧ lk.group = none) ∧
  (∀ w ∈ lk.queue, w.req = .shared → lk.sharedAllowed = true ∧ lk.group = none) ∧
  (lk.group = none → lk.state ≠ .vacating ∧ lk.state ≠ .handover ∧ lk.state ≠ .faulted) ∧
  (l = 0 → lk.group = none ∧ lk.sharedAllowed = false ∧ lk.holdLimit = 0)

/-- A sound lock record. -/
structure LockRec.Sound (l : LockId) (lk : LockRec) : Prop where
  holders : lk.HoldersFit
  queue : lk.QueueFits
  places : lk.PlacesFit
  attributes : lk.AttributesFit l

/-- Every lock record is sound. -/
def State.LocksSound (s : State) : Prop := ∀ l, (s.lock l).Sound l

/-! ### Blocking entries and stretched engines (R39) -/

/-- A port has a blocking entry at a lock only while its engine is STRETCHED for that lock and has no ending handed to it; and a
STRETCHED engine has such an entry or an ending. -/
abbrev State.StretchesSound (s : State) : Prop :=
  ∀ p,
    (∀ l, (s.lock l).blocks p = true → (s.engine p).stretchLock = some l ∧ (s.engine p).handed = none) ∧
    ((s.engine p).state = .stretched → (s.engine p).handed.isSome = true ∨ ∃ l, (s.lock l).blocks p = true)

/-- Every engine is sound. -/
abbrev State.EnginesSound (s : State) : Prop := ∀ p, (s.engine p).Sound

/-! ### Sound route groups (R59 to R62) -/

/-- The guard timer runs. -/
def GroupTimer.isGuard : GroupTimer → Bool
  | .guardTime _ => true
  | .stopped | .settleTime _ | .confirmTime _ => false

/-- The settle timer runs. -/
def GroupTimer.isSettle : GroupTimer → Bool
  | .settleTime _ => true
  | .stopped | .guardTime _ | .confirmTime _ => false

/-- The confirm timer runs. -/
def GroupTimer.isConfirm : GroupTimer → Bool
  | .confirmTime _ => true
  | .stopped | .guardTime _ | .settleTime _ => false

/-- The enable line and the timer in each state of a group (R58, R59). -/
abbrev Group.LinesFit (g : Group) : Prop :=
  (g.state = .unbound → g.enable = false ∧ g.timer = .stopped ∧ g.select = 0 ∧ g.confirmMs = 0) ∧
  (g.state = .broken → g.enable = false ∧ g.timer = .stopped) ∧
  (g.state = .breaking → g.enable = false ∧ g.timer.isGuard = true) ∧
  (g.state = .making →
    (g.enable = false ∧ g.timer.isSettle = true) ∨ (g.enable = true ∧ g.timer.isConfirm = true)) ∧
  (g.state = .made → g.enable = true ∧ g.timer = .stopped) ∧
  (g.state = .fault → g.enable = false ∧ (if g.clearing = true then g.timer.isGuard = true else g.timer = .stopped))

/-- A sound group record. -/
abbrev Group.Sound (g : Group) : Prop :=
  g.LinesFit ∧ (g.lock.isSome = true ↔ g.state ≠ .unbound) ∧ g.lock ≠ some 0 ∧
    (g.guardUnits = 0 ↔ g.state = .unbound) ∧ (g.clearing = true → g.state = .fault) ∧
    (g.senseInput = true → g.senseFiltered = true) ∧
    (g.senseTimer.isSome = true → g.senseFiltered = true ∧ g.senseInput = false)

/-- Every group record is sound. -/
abbrev State.GroupsSound (s : State) : Prop := ∀ g, (s.group g).Sound

/-- The two records of a binding name each other: a group names the lock that names it (R58, R76, R77). -/
abbrev State.BindingsAgree (s : State) : Prop := ∀ g l, (s.group g).lock = some l ↔ (s.lock l).group = some g

/-! ### A sound pool (R106 to R109, R130) -/

/-- How many inbound queues name a cell. -/
def State.namings (s : State) (c : CellId) : Nat := allPorts.countP fun p => decide (c ∈ (s.inbound p).queue)

/-- A cell is free and named by no queue, or in use with as many references, 1 to 3, as queues name it (R107). -/
abbrev State.CellFits (s : State) (c : CellId) : Prop :=
  (s.cell c = none → s.namings c = 0) ∧
  (∀ x ∈ s.cell c, 1 ≤ x.refs ∧ x.refs ≤ 3 ∧ x.refs = s.namings c ∧ x.payload.length ≤ 16 ∧
    c ∉ (s.inbound x.source).queue)

/-- The four limits of a port lie in their ranges (R150). -/
abbrev limitsInRange (quota sendCap stretch : Byte) : Prop :=
  1 ≤ quota.toNat ∧ quota.toNat ≤ 32 ∧ 1 ≤ sendCap.toNat ∧ sendCap.toNat ≤ 64 ∧ 1 ≤ stretch.toNat ∧ stretch.toNat ≤ 50

/-- What an engine waits for carries only values in range. -/
def ExecWait.inRange : ExecWait → Bool
  | .portLimits h => decide (limitsInRange h.quota h.sendCap h.stretch)
  | .heldFrame cmd => cmd.lenAccepted
  | .nothing | .ownTeardown | .teardownOf _ | .restartStages | .restartEnd => true

/-- The queues of a port hold no more than their limits, and its limits lie in their ranges (R108, R130, R150). -/
abbrev State.QueuesFit (s : State) (p : Port) : Prop :=
  (s.inbound p).queue.Nodup ∧ (s.inbound p).queue.length ≤ 32 ∧ (s.noticeQueue p).records.length ≤ 16 ∧
  limitsInRange (s.inbound p).quota (s.inbound p).sendCap (s.engine p).stretchCopy ∧
  limitsInRange (s.limit p).quota (s.limit p).sendCap (s.limit p).stretch ∧ (s.engine p).wait.inRange = true

/-- A sound pool, with sound queues. -/
abbrev State.PoolSound (s : State) : Prop := (∀ c, s.CellFits c) ∧ ∀ p, s.QueuesFit p

/-! ### Sound sessions (R83, R84, R96, R100) -/

/-- The fields of a session record fit its state. -/
abbrev Session.Sound (x : Session) : Prop :=
  x.prio ≤ x.cap ∧ x.lease ≤ x.leasePeriod ∧ x.threshold.toNat ≤ 32 ∧
  (x.state = .closed →
    x.leasePeriod = 0 ∧ x.prio = 0 ∧ x.threshold = 0 ∧ x.noticeAttn = false ∧ x.awaiter = none) ∧
  (x.state = .opened →
    100 ≤ x.leasePeriod.toNat ∧ x.leasePeriod.toNat ≤ 60000 ∧ x.epoch ≠ 0 ∧ x.awaiter = none ∧ x.teardown = none) ∧
  (x.state = .ending →
    x.lease = 0 ∧ x.epoch ≠ 0 ∧ x.endReason ≠ .noReason ∧ x.endReason ≠ .restart)

/-- Every session record is sound. -/
abbrev State.SessionsSound (s : State) : Prop := ∀ p, (s.session p).Sound

/-! ### Posts of ended sessions (R126, R138) -/

/-- No post that passed the guard of a session is in flight to a CLOSED port, so none can reach a later session of it. -/
abbrev State.GuardedPostsFit (s : State) : Prop :=
  ∀ x ∈ s.lockPosts ++ s.messagePosts, x.notice.guarded = true → (s.session x.port).state ≠ .closed

/-! ### A sound RESTART (R158, R159) -/

/-- While a RESTART is in progress its requester waits in EXECUTING, and once the session block has taken it every session is
CLOSED. -/
abbrev State.RestartSound (s : State) : Prop :=
  ∀ r ∈ s.restart,
    (s.engine r.requester).state = .executing ∧ (s.engine r.requester).wait = .restartStages ∧
      (r.sessionTaken = true → ∀ p, (s.session p).state = .closed)

/-! ### Leases and stretches (R92) -/

/-- While a port with an OPEN session is STRETCHED, at least 50 ms of its lease remain beyond what is left of the stretch timer; and
once that timer has stopped, a limit claim or an ending is on its way. -/
abbrev State.LeasesOutlastStretches (s : State) : Prop :=
  ∀ p, (s.engine p).state = .stretched → (s.session p).state = .opened →
    50 ≤ (s.session p).lease.toNat ∧ (∀ n ∈ (s.engine p).stretchTimer, 50 + n ≤ (s.session p).lease.toNat) ∧
      ((s.engine p).stretchTimer = none → (s.engine p).limitClaim.isSome = true ∨ (s.engine p).handed.isSome = true)

/-! ### Grants (R4) -/

/-- What one step may do to the generation of a lock: nothing, and then no holder entry is new; or one grant, which steps it
once, from 65535 to 1, and whose holder entries carry the new generation. -/
def LockRec.GrantsAtMostOnce (a b : LockRec) : Prop :=
  (b.gen = a.gen ∧ ∀ h ∈ b.holders, ∃ k ∈ a.holders, k.port = h.port ∧ k.gen = h.gen) ∨
  (b.gen = (if a.gen = 65535 then 1 else a.gen + 1) ∧ (∃ h ∈ b.holders, h.gen = b.gen) ∧
    ∀ h ∈ b.holders, h.gen = b.gen ∨ ∃ k ∈ a.holders, k.port = h.port ∧ k.gen = h.gen)

/-! ### What the part can take on its own (log 2) -/

/-- The command stands for a claim in flight, a stage or step not yet taken, or a timer that has run out. -/
def State.Due (s : State) : Instr → Prop
  | .stretchEnding p => (s.engine p).state = .stretched ∧ (s.engine p).handed ≠ none
  | .limitClaim p => (s.engine p).limitClaim ≠ none
  | .breakOrder g => (s.group g).orders.head? = some .breakRoute
  | .makeOrder g => ∃ p, (s.group g).orders.head? = some (.makeRoute p)
  | .routeClear g => (s.group g).reports.head? = some .clear
  | .routeMade g => ∃ p, (s.group g).reports.head? = some (.made p)
  | .routeFault g => (s.group g).reports.head? = some .fault
  | .noticePost .lockTable => s.lockPosts ≠ []
  | .noticePost .sessionBlock => s.sessionPosts ≠ []
  | .noticePost .messageBlock => s.messagePosts ≠ []
  | .newPortLimitsTaken p block =>
    (s.engine p).state = .executing ∧ ∃ h, (s.engine p).wait = .portLimits h ∧ h.takenBy block = false
  | .teardownHoldings p l => ∃ t, s.teardownStep p = some t ∧ t.step = .holdings ∧ t.locks.getLsbD l.val = false
  | .teardownWaits p l => ∃ t, s.teardownStep p = some t ∧ t.step = .waits ∧ t.locks.getLsbD l.val = false
  | .teardownFlush p => ∃ t, s.teardownStep p = some t ∧ t.step = .flush ∧ t.taken = false
  | .teardownPeerEnded p => ∃ t, s.teardownStep p = some t ∧ t.step = .peerEnded ∧ t.taken = false
  | .teardownEnd p => ∃ t, s.teardownStep p = some t ∧ t.step = .finish ∧ t.taken = false
  | .restartSecondStage block =>
    (∀ p, (s.engine p).stageDeferred = false) ∧ ∃ r, s.restart = some r ∧ r.takenBy block = false
  | .restartThirdStage order => order = [] ∧ ∃ r, s.restart = some r ∧ ∀ block, r.takenBy block = true
  | .guardExpiry g => (s.group g).state = .breaking ∧ (s.group g).timer = .guardTime 0
  | .faultClearGuardExpiry g =>
    (s.group g).state = .fault ∧ (s.group g).clearing = true ∧ (s.group g).timer = .guardTime 0
  | .settleExpiry g => (s.group g).state = .making ∧ (s.group g).timer = .settleTime 0
  | .confirmExpiry g => (s.group g).state = .making ∧ (s.group g).timer = .confirmTime 0
  | .senseLoss g => (s.group g).senseTimer = some 0
  | .holdLimitExpiry l p => ∃ h, (s.lock l).holderOf p = some h ∧ h.hold = some 0
  | .deadlineExpiry l p => ∃ w, (s.lock l).waiterOf p = some w ∧ w.deadline = some 0
  | .leaseExpiry p => (s.session p).state = .opened ∧ (s.session p).lease = 0
  | .stretchLimitExpiry p => (s.engine p).state = .stretched ∧ (s.engine p).stretchTimer = some 0
  | .busTimeout p =>
    ((s.engine p).state = .receiving ∨ (s.engine p).state = .sending ∨ (s.engine p).state = .ignoring) ∧
      (s.engine p).busTimer = some 0
  | .status _ _ | .openSession _ _ _ _ _ _ | .close _ _ | .acquire _ _ _ _ _ _ | .release _ _ _ _ | .cancel _ _ _
  | .downgrade _ _ _ _ | .query _ _ _ | .holdings _ _ | .send _ _ _ _ _ _ | .take _ _ | .peek _ _ | .flush _ _
  | .takeNotice _ _ | .setLockAttr _ _ _ _ _ | .setPortLimits _ _ _ _ _ _ _ | .bindRoute _ _ _ _ _ _
  | .unbindRoute _ _ _ | .clearRouteFault _ _ _ | .forceRelease _ _ _ | .expel _ _ _ | .restart _ _ | .queryRoute _ _ _
  | .reset _ _ | .busCondition _ _ | .addressByte _ _ | .linkRefusal _ _ | .readTransaction _ _ _
  | .senseRise _ | .senseFall _ => False

/-- RESET is the command that the next step carries out. -/
def State.resetNext (s : State) : Bool :=
  match s.pending with
  | .reset _ _ :: _ => true
  | _ => false

end Sys2Proof.Machine
end

