-- ==== Sys2Proof/Certificates/Slice0/Obligations.lean ====
section
/-! DEFINITION. The statements about the part. A statement that carries a frame out says with one equation what the part is
afterwards: `s.carrying p seq cmd` is the part with the frame in EXECUTING and the lease renewed, the named records of it are
changed, everything else is as it was, and `answer` stores the response. That a frame is one command that stands for its whole
write transaction, and that the bus-timeout timer is loaded at each row, the fall of SCL after a START included, are the model's
choices (log 5, 6, 14). -/

open Sys2Proof Sys2Proof.Machine

/-! ### The queue, the empty queue, RESET -/

/-- The command at the front of the queue is carried out with the rest of the queue. -/
def Obligations.StepTakesTheFrontCommand : Prop :=
  ∀ (c : Instr) (rest : List Instr) (s : State), step { s with pending := c :: rest } = exec c { s with pending := rest }

/-- THE MODEL'S CHOICE (log 2, 13, 14, 35): on an empty queue the part takes the first claim or due timer of its own, and when there
is none 10 µs pass. Every hundredth time a millisecond passes for the timers on the 1 ms time base. A stopped timer stays stopped,
and the confirm time stands in between.
What it can take on its own is exactly what is in flight and not yet taken, and every timer that has run out. -/
def Obligations.EmptyQueueTakesAClaimOrLetsTimePass : Prop :=
  (∀ (s : State) (c : Instr), c ∈ s.ownClaims ↔ s.Due c) ∧
  (∀ s : State, s.pending = [] →
    (∀ c cs, s.ownClaims = c :: cs → step s = exec c s) ∧
    (s.ownClaims = [] → ∃ t, step s = .next t ∧
      (∀ g, t.group g =
        { s.group g with
          senseTimer := (s.group g).senseTimer.map (· - 1)
          timer :=
            match (s.group g).timer with
            | .stopped => .stopped
            | .guardTime n => .guardTime (n - 1)
            | .settleTime n => .settleTime (n - 1)
            | .confirmTime n => .confirmTime (if s.msPhase < 99 then n else n - 1) }) ∧
      (s.msPhase < 99 →
        t.msPhase = s.msPhase + 1 ∧ UnchangedBut { groups := allGroups } { s with msPhase := t.msPhase } t) ∧
      (99 ≤ s.msPhase →
        t.msPhase = 0 ∧
        (∀ p, (s.session p).state = .opened →
          t.session p = { s.session p with lease := if (s.session p).lease = 0 then 0 else (s.session p).lease - 1 }) ∧
        (∀ p, (s.session p).state ≠ .opened → t.session p = s.session p) ∧
        (∀ l, t.lock l =
          { s.lock l with
            holders := (s.lock l).holders.map fun h => { h with hold := h.hold.map fun w => if w = 0 then 0 else w - 1 }
            queue := (s.lock l).queue.map fun w =>
              { w with deadline := w.deadline.map fun d => if d = 0 then 0 else d - 1 } }) ∧
        (∀ p, t.engine p =
          { s.engine p with
            stretchTimer := (s.engine p).stretchTimer.map (· - 1), busTimer := (t.engine p).busTimer }) ∧
        (∀ p,
          ((s.engine p).state = .receiving ∨ (s.engine p).state = .sending ∨ (s.engine p).state = .ignoring →
            (t.engine p).busTimer = none ∨ (t.engine p).busTimer = some 35 ∨
              (t.engine p).busTimer = (s.engine p).busTimer.map (· - 1)) ∧
          ((s.engine p).state = .idle ∨ (s.engine p).state = .executing ∨ (s.engine p).state = .stretched →
            (t.engine p).busTimer = none)) ∧
        UnchangedBut { engines := allPorts, sessions := allPorts, locks := allLocks, groups := allGroups }
          { s with msPhase := 0, sclSample := t.sclSample } t)))

/-- The RESET input leaves every lock record, route group and notice queue in its starting state, with no authority, no post, no
order and no report in flight; and so is the state from which a run starts (R24, R81, R145). -/
def Obligations.ResetStateHoldsTheStatedValues : Prop :=
  ∀ u : State, (u = State.reset ∨ ∃ as1 as0 s, exec (.reset as1 as0) s = .next u) →
    (∀ l, u.lock l =
      { state := .free, holders := [], queue := [], gen := 0, sharedAllowed := decide (l ≠ 0), holdLimit := 0, group := none,
        vacatingFrom := none, target := none }) ∧
    u.authorityHolder = none ∧
    (∀ g, (u.group g).state = .unbound ∧ (u.group g).lock = none ∧ (u.group g).guardUnits = 0 ∧
      (u.group g).confirmMs = 0 ∧ (u.group g).select = 0 ∧ (u.group g).enable = false ∧ (u.group g).timer = .stopped ∧
      (u.group g).clearing = false ∧ (u.group g).enLine = false ∧ (u.group g).selLines = (false, false) ∧
      (u.group g).senseFiltered = false ∧ (u.group g).orders = [] ∧ (u.group g).reports = []) ∧
    (∀ p, (u.noticeQueue p).records = [] ∧ (u.noticeQueue p).lost = false ∧ u.attn p = false ∧
      (u.session p).state = .closed) ∧
    u.lockPosts = [] ∧ u.sessionPosts = [] ∧ u.messagePosts = []

/-- RESET puts every block in its starting state, samples the straps, AS1 the high bit, and so fixes the address (R193, R181,
R128, R104, R161). The queue of commands and the counter of free samples are the model's and stay (log 10). -/
def Obligations.ResetCommandRestoresEveryRecord : Prop :=
  ∀ (as1 as0 : Bool) (s : State), ∃ t, exec (.reset as1 as0) s = .next t ∧
    UnchangedBut { engines := allPorts } { State.reset with sclSample := s.sclSample, pending := s.pending } t ∧
    (∀ p, (t.engine p).state = .idle ∧ (t.engine p).frame = [] ∧ (t.engine p).expected = none ∧
      (t.engine p).check = 0x00 ∧ (t.engine p).snapshot = none ∧ (t.engine p).memory = none ∧
      (t.engine p).resp = { status := .noRecord, echo := 0, data := [] } ∧ (t.engine p).linkError = false ∧
      (t.engine p).busTimer = none ∧ (t.engine p).stretchCopy = 20 ∧ (t.engine p).stretchTimer = none ∧
      (t.engine p).strap.toNat = 2 * as1.toNat + as0.toNat ∧
      (writeAddress (t.engine p).strap).toNat = 2 * (0x3C + 2 * as1.toNat + as0.toNat)) ∧
    (∀ p, (t.session p).state = .closed ∧ (t.session p).epoch = 0 ∧ (t.session p).endReason = .noReason ∧
      (t.session p).leasePeriod = 0 ∧ (t.session p).lease = 0 ∧ (t.session p).prio = 0 ∧
      (t.session p).threshold = 0 ∧ (t.session p).noticeAttn = false ∧ (t.session p).awaiter = none ∧
      (t.session p).cap = 3) ∧
    (∀ c, t.cell c = none) ∧ t.poolFree = 64 ∧
    (∀ p, t.inbound p = { queue := [], number := 0, quota := 16, sendCap := 32 } ∧ t.outstanding p = 0 ∧
      t.limit p = { cap := 3, quota := 16, sendCap := 32, stretch := 20 })

/-! ### The common order of checks -/

/-- No command of the table stops the part, and none changes the queue of commands that wait behind it: the spec gives the part
no fault ("Faults" in INVENTORY.md), and every refusal is a response (R176). -/
def Obligations.EveryCommandCompletesAndKeepsTheQueue : Prop :=
  ∀ (c : Instr) (s : State), ∃ t, exec c s = .next t ∧ t.pending = s.pending

/-- The repeat step (R166). A repeat is not carried out: the stored record and the memory stand. A reused SEQ is answered SEQ_REUSED
with the memory as it was. A new frame is taken into the memory and goes on to the session step, then to the authority step, and
then to the checks and the effect of its own command. Each of the three renews the lease of an OPEN session, and the first two
change nothing else but the state of the engine, so a repeated STATUS clears no link-error flag (R167, R168, R90). -/
def Obligations.RepeatStepOfEveryFrame : Prop :=
  ∀ (s : State) (p : Port) (seq : Byte) (cmd : HostCommand), FrameComes s p cmd →
    let u := s.carrying p seq cmd
    let passed := { (s.engine p).carrying seq cmd with
      memory := (s.engine p).memory, state := .ignoring, busTimer := some 35 }
    (∀ last, (s.engine p).memory = some (seq, last) → last = cmd.code →
      exec (cmd.instr p seq) s = .next (u.setEngine p passed)) ∧
    (∀ last, (s.engine p).memory = some (seq, last) → last ≠ cmd.code →
      exec (cmd.instr p seq) s = .next (u.setEngine p
        { passed with resp := { status := .seqReused, echo := seq, data := [] } })) ∧
    ((s.engine p).memory.map Prod.fst ≠ some seq →
      (cmd.passesSession (s.session p).state = false →
        exec (cmd.instr p seq) s = .next (u.answer p .noSession [])) ∧
      (cmd.passesSession (s.session p).state = true → cmd.isConfiguration = true → s.hasAuthority p = false →
        exec (cmd.instr p seq) s = .next (u.answer p .notAuthorized [])) ∧
      (cmd.passesSession (s.session p).state = true → (cmd.isConfiguration = true → s.hasAuthority p = true) →
        exec (cmd.instr p seq) s = .next (carryOut p cmd u)))

/-- A frame that needs an OPEN session is refused with NO_SESSION without one; STATUS, OPEN, QUERY and QUERY_ROUTE need none, and
CLOSE is refused in ENDING only. A configuration command of an OPEN port that does not hold L0 EXCLUSIVE is refused with
NOT_AUTHORIZED. A refusal changes nothing but the lease, the memory and the response (R174, R148, R176).
A frame with an argument out of its range is refused with RANGE, whichever argument it is (R175). -/
def Obligations.CommonChecksRefuse : Prop :=
  (∀ (s : State) (p : Port) (seq : Byte) (cmd : HostCommand), FrameArrives s p seq cmd →
     ((s.session p).state ≠ .opened → cmd.code ≠ 0x01 → cmd.code ≠ 0x02 → cmd.code ≠ 0x14 → cmd.code ≠ 0x38 →
       (cmd.code = 0x03 → (s.session p).state = .ending) →
       exec (cmd.instr p seq) s = .next ((s.carrying p seq cmd).answer p .noSession [])) ∧
     ((s.session p).state = .opened → 0x30 ≤ cmd.code.toNat → cmd.code.toNat ≤ 0x37 →
       (∀ h ∈ (s.lock 0).holders, h.port = p → h.mode ≠ .exclusive) →
       exec (cmd.instr p seq) s = .next ((s.carrying p seq cmd).answer p .notAuthorized []))) ∧
  (∀ (s : State) (p : Port) (seq : Byte) (cmd : HostCommand), CarriedOut s p seq cmd → cmd.inRange p = false →
     exec (cmd.instr p seq) s = .next ((s.carrying p seq cmd).answer p .range []))

/-- While the engine holds SCL no frame can be made (R180). A frame that completes at another port during a RESTART is held in
EXECUTING and changes nothing else: no lease, no memory (R158). -/
def Obligations.FramesUnseenAndFramesHeld : Prop :=
  ∀ (s : State) (p : Port) (seq : Byte) (cmd : HostCommand),
    ((s.engine p).state = .executing ∨ (s.engine p).state = .stretched → exec (cmd.instr p seq) s = .next s) ∧
    (∀ r, s.restart = some r → r.requester ≠ p → CanReceive s p → cmd.lenAccepted = true →
      exec (cmd.instr p seq) s = .next (s.setEngine p
        { (s.engine p).carrying seq cmd with memory := (s.engine p).memory, wait := .heldFrame cmd }))

/-! ### ACQUIRE -/

/-- An ACQUIRE that is granted at once: on a FREE unbound lock, or as a join of a SHARED lock with an empty queue. The generation
steps once, from 65535 to 1, the requester becomes a holder with it, and the response carries mode and generation (R10, R11, R5). -/
def Obligations.AcquireGrantedAtOnce : Prop :=
  ∀ (s : State) (p : Port) (seq : Byte) (l : LockId) (m : Mode) (w : WaitMode) (deadline : Word16),
    CarriedOut s p seq (.acquire (argByte l) m.code w.code deadline) → (s.lock l).Sound l →
    (m = .shared → l ≠ 0 ∧ (s.lock l).sharedAllowed = true ∧ (s.lock l).group = none) →
    ((s.lock l).state = .free ∧ (s.lock l).group = none ∨
      m = .shared ∧ (s.lock l).state = .shared ∧ (s.lock l).queue = [] ∧
        p ∉ (s.lock l).holders.map Holder.port) →
    let gen := if (s.lock l).gen = 65535 then 1 else (s.lock l).gen + 1
    exec (.acquire p seq (argByte l) m.code w.code deadline) s =
      .next (((s.carrying p seq (.acquire (argByte l) m.code w.code deadline)).setLock l
        { s.lock l with
          state := match m with
            | .shared => .shared
            | .exclusive => .exclusive
          gen := gen
          holders := (s.lock l).holders ++
            [{ port := p, mode := m, gen := gen,
               hold := if (s.lock l).holdLimit = 0 then none else some (s.lock l).holdLimit }] }).answer p .granted
        (m.code :: wordBytes gen))

/-- An ACQUIRE on a FREE bound lock starts a handover in any wait mode: the requester becomes the target, without a deadline, a make
order goes to the group, and the generation stays; the response is QUEUED with 0, or the stretch begins (R12). -/
def Obligations.AcquireOnFreeBoundLockStartsHandover : Prop :=
  ∀ (s : State) (p : Port) (seq : Byte) (l : LockId) (g : GroupId) (w : WaitMode) (deadline : Word16),
    CarriedOut s p seq (.acquire (argByte l) 1 w.code deadline) → (s.lock l).Sound l → (s.lock l).state = .free →
    (s.lock l).group = some g →
    let target : Waiter := { port := p, req := .exclusive, prio := (s.session p).prio, deadline := none,
                             blocking := decide (w = .block), epoch := (s.session p).epoch }
    let u := ((s.carrying p seq (.acquire (argByte l) 1 w.code deadline)).setLock l
      { s.lock l with state := .handover, target := some target }).setGroup g
      { s.group g with orders := (s.group g).orders ++ [.makeRoute p] }
    exec (.acquire p seq (argByte l) 1 w.code deadline) s =
      .next (if w = .block then u.stretch p l else u.answer p .queued [0])

/-- An ACQUIRE that is no upgrade and is neither granted at once nor starts a handover: TRY is refused with BUSY, or ROUTE_FAULT on a
FAULTED lock; QUEUE makes a waiter entry and answers its position; BLOCK makes one with its blocking flag set and begins the
stretch (R13, R26, R38, R39). -/
def Obligations.AcquireWaitsByItsWaitMode : Prop :=
  ∀ (s : State) (p : Port) (seq : Byte) (l : LockId) (m : Mode) (w : WaitMode) (deadline : Word16),
    CarriedOut s p seq (.acquire (argByte l) m.code w.code deadline) → (s.lock l).Sound l →
    (m = .shared → l ≠ 0 ∧ (s.lock l).sharedAllowed = true ∧ (s.lock l).group = none) →
    p ∉ (s.lock l).holders.map Holder.port → p ∉ (s.lock l).queue.map Waiter.port →
    p ∉ ((s.lock l).target.map Waiter.port).toList → (s.lock l).state ≠ .free →
    ¬(m = .shared ∧ (s.lock l).state = .shared ∧ (s.lock l).queue = []) →
    let u := s.carrying p seq (.acquire (argByte l) m.code w.code deadline)
    let entry : Waiter :=
      { port := p
        req := match m with
          | .shared => .shared
          | .exclusive => .exclusive
        prio := (s.session p).prio, deadline := if deadline = 0 then none else some deadline
        blocking := decide (w = .block), epoch := (s.session p).epoch }
    let queue := insertWaiter entry (s.lock l).queue
    exec (.acquire p seq (argByte l) m.code w.code deadline) s =
      .next (match w with
        | .tryNow => u.answer p (if (s.lock l).state = .faulted then .routeFault else .busy) []
        | .queue => (u.setLock l { s.lock l with queue := queue }).answer p .queued
            [natByte ((queue.map Waiter.port).idxOf p + 1)]
        | .block => (u.setLock l { s.lock l with queue := queue }).stretch p l)

/-- The upgrade path: the sole SHARED holder is converted at once under a new generation with a fresh hold remaining; one of several
is refused with DEADLOCK behind another UPGRADE entry, with BUSY for TRY, and else gets an UPGRADE entry at the head
(R30, R31). -/
def Obligations.AcquireUpgrades : Prop :=
  ∀ (s : State) (p : Port) (seq : Byte) (l : LockId) (w : WaitMode) (deadline : Word16),
    CarriedOut s p seq (.acquire (argByte l) 1 w.code deadline) → (s.lock l).Sound l → (s.lock l).state = .shared →
    p ∈ (s.lock l).holders.map Holder.port → p ∉ (s.lock l).queue.map Waiter.port →
    let u := s.carrying p seq (.acquire (argByte l) 1 w.code deadline)
    let entry : Waiter := { port := p, req := .upgrade, prio := (s.session p).prio,
                            deadline := if deadline = 0 then none else some deadline, blocking := decide (w = .block),
                            epoch := (s.session p).epoch }
    ((s.lock l).holders.length = 1 →
      exec (.acquire p seq (argByte l) 1 w.code deadline) s =
        .next ((u.setLock l
          { s.lock l with
            state := .exclusive, gen := nextGen (s.lock l).gen
            holders := [{ port := p, mode := .exclusive, gen := nextGen (s.lock l).gen,
                          hold := if (s.lock l).holdLimit = 0 then none else some (s.lock l).holdLimit }] }).answer p
          .granted (1 :: wordBytes (nextGen (s.lock l).gen)))) ∧
    ((s.lock l).holders.length ≠ 1 →
      exec (.acquire p seq (argByte l) 1 w.code deadline) s =
        .next (if ∃ x ∈ (s.lock l).queue, x.req = .upgrade then u.answer p .deadlock []
          else match w with
            | .tryNow => u.answer p .busy []
            | .queue => (u.setLock l { s.lock l with queue := entry :: (s.lock l).queue }).answer p .queued [1]
            | .block => (u.setLock l { s.lock l with queue := entry :: (s.lock l).queue }).stretch p l))

/-- The refusals of an ACQUIRE by the lock's attributes and by the port's own standing, in their order: MODE, HELD, DUPLICATE
(R8, R9). -/
def Obligations.AcquireRefusals : Prop :=
  ∀ (s : State) (p : Port) (seq : Byte) (l : LockId) (m : Mode) (w : WaitMode) (deadline : Word16),
    CarriedOut s p seq (.acquire (argByte l) m.code w.code deadline) →
    let u := s.carrying p seq (.acquire (argByte l) m.code w.code deadline)
    let modeRefused := m = .shared ∧ (l = 0 ∨ (s.lock l).sharedAllowed = false ∨ (s.lock l).group ≠ none)
    let held := ∃ h ∈ (s.lock l).holderOf p, m = .shared ∨ h.mode = .exclusive
    let waiting := p ∈ (s.lock l).queue.map Waiter.port ∨ p ∈ ((s.lock l).target.map Waiter.port).toList
    (modeRefused → exec (.acquire p seq (argByte l) m.code w.code deadline) s = .next (u.answer p .mode [])) ∧
    (¬modeRefused → held →
      exec (.acquire p seq (argByte l) m.code w.code deadline) s = .next (u.answer p .held [])) ∧
    (¬modeRefused → ¬held → waiting →
      exec (.acquire p seq (argByte l) m.code w.code deadline) s = .next (u.answer p .duplicate []))

/-- The place of a new entry: an UPGRADE entry goes to the head; any other goes directly behind the last entry of equal or higher
priority, or behind the UPGRADE head, and the entries already there keep their order (R28). -/
def Obligations.NewWaiterTakesItsPlaceByPriority : Prop :=
  ∀ (w : Waiter) (queue : List Waiter), (∀ x ∈ queue.tail, x.req ≠ .upgrade) →
    (w.req = .upgrade → insertWaiter w queue = w :: queue) ∧
    (w.req ≠ .upgrade → ∃ before after, queue = before ++ after ∧ insertWaiter w queue = before ++ w :: after ∧
      (∀ x ∈ before.getLast?, w.prio ≤ x.prio ∨ x.req = .upgrade) ∧ (∀ x ∈ after, x.prio < w.prio ∧ x.req ≠ .upgrade))

/-! ### The grant pass, the release path, and how a grant is told -/

/-- A grant from an entry is told by the ending of the stretched frame when the blocking flag is set, ABORTED in its place when
the session is not OPEN with the entry's epoch, and the engine keeps the first ending; otherwise by a GRANTED notice under the
same guard. Nothing else changes (R40, R44, R50).
The grant pass does the one thing its table names: an EXCLUSIVE head of a FREE unbound lock is granted, a FREE bound lock
begins a handover toward its head, a SHARED head of a FREE unbound or of a SHARED lock is granted with every SHARED entry
directly behind it, the sole holder's UPGRADE head is converted, and in every other case nothing happens (R34 to R36). -/
def Obligations.GrantPassDoesOneThingAndTellsIt : Prop :=
  (∀ (s : State) (l : LockId) (w : Waiter) (m : Mode) (gen : Word16) (cause : Option Port),
     let guarded := (s.session w.port).state = .opened ∧ (s.session w.port).epoch = w.epoch
     (w.blocking = true → (s.engine w.port).handed = none →
       s.deliverGrant l w m gen cause = s.setEngine w.port
         { s.engine w.port with handed := some (if guarded then .granted m gen else .aborted) }) ∧
     (w.blocking = true → (s.engine w.port).handed ≠ none → s.deliverGrant l w m gen cause = s) ∧
     (w.blocking = false → guarded →
       s.deliverGrant l w m gen cause =
         { s with lockPosts := s.lockPosts ++ [{ port := w.port, notice := .granted l m gen, cause := cause }] }) ∧
     (w.blocking = false → ¬guarded → s.deliverGrant l w m gen cause = s)) ∧
  (∀ (s : State) (l : LockId) (cause : Option Port),
     let lk := s.lock l
     let hold := if lk.holdLimit = 0 then none else some lk.holdLimit
     (lk.queue = [] → s.grantPass l cause = s) ∧
     (∀ w rest, lk.queue = w :: rest →
       (lk.state = .free → lk.group = none → w.req = .exclusive → lk.holders = [] →
         s.grantPass l cause = (s.setLock l
           { lk with
             state := .exclusive, gen := nextGen lk.gen, queue := rest
             holders := [{ port := w.port, mode := .exclusive, gen := nextGen lk.gen, hold := hold }] }).deliverGrant l w
           .exclusive (nextGen lk.gen) cause) ∧
       (∀ g, lk.state = .free → lk.group = some g → w.req = .exclusive →
         s.grantPass l cause = (s.setLock l
           { lk with state := .handover, queue := rest, target := some { w with deadline := none } }).setGroup g
           { s.group g with orders := (s.group g).orders ++ [.makeRoute w.port] }) ∧
       (∀ batch behind, (lk.state = .free ∧ lk.group = none ∨ lk.state = .shared) → w.req = .shared →
         lk.queue = batch ++ behind → (∀ x ∈ batch, x.req = .shared) → (∀ x ∈ behind.head?, x.req ≠ .shared) →
         (∀ h ∈ lk.holders, h.port ∉ batch.map Waiter.port) →
         s.grantPass l cause = batch.foldl (fun t x => t.deliverGrant l x .shared (nextGen lk.gen) cause) (s.setLock l
           { lk with
             state := .shared, gen := nextGen lk.gen, queue := behind
             holders := lk.holders ++ batch.map fun x =>
               { port := x.port, mode := .shared, gen := nextGen lk.gen, hold := hold } })) ∧
       (∀ h, lk.state = .shared → w.req = .upgrade → lk.holders = [h] → h.port = w.port →
         s.grantPass l cause = (s.setLock l
           { lk with
             state := .exclusive, gen := nextGen lk.gen, queue := rest
             holders := [{ port := w.port, mode := .exclusive, gen := nextGen lk.gen, hold := hold }] }).deliverGrant l w
           .exclusive (nextGen lk.gen) cause) ∧
       ((lk.state = .exclusive ∨ lk.state = .vacating ∨ lk.state = .handover ∨ lk.state = .faulted ∨
           lk.state = .free ∧ (w.req = .upgrade ∨ w.req = .shared ∧ lk.group ≠ none) ∨
           lk.state = .shared ∧ (w.req = .exclusive ∨
             w.req = .upgrade ∧ ∀ h, lk.holders = [h] → h.port ≠ w.port)) →
         s.grantPass l cause = s)))

/-- The release path: the entries leave, an UPGRADE entry of a removed port becomes EXCLUSIVE in its place; then the lock stays
SHARED or becomes FREE and the grant pass runs, or a bound lock becomes VACATING and sends a break order (R14). -/
def Obligations.ReleasePathOfRemovedHolders : Prop :=
  ∀ (s : State) (l : LockId) (p : Port) (others : List Port) (cause : Option Port), (s.lock l).Sound l →
    let removed := p :: others
    let lk := s.lock l
    let holders := lk.holders.filter fun h => decide (h.port ∉ removed)
    let queue := lk.queue.map fun w => if w.req = .upgrade ∧ w.port ∈ removed then { w with req := .exclusive } else w
    (holders ≠ [] →
      s.releasePath l removed cause = (s.setLock l { lk with holders := holders, queue := queue }).grantPass l cause) ∧
    (holders = [] → lk.group = none →
      s.releasePath l removed cause =
        (s.setLock l { lk with state := .free, holders := [], queue := queue }).grantPass l cause) ∧
    (∀ g, holders = [] → lk.group = some g → lk.state = .exclusive →
      s.releasePath l removed cause = (s.setLock l
        { lk with state := .vacating, holders := [], vacatingFrom := some p }).setGroup g
        { s.group g with orders := (s.group g).orders ++ [.breakRoute] })

/-! ### RELEASE, CANCEL, DOWNGRADE, FORCE_RELEASE -/

/-- RELEASE: RANGE, NOT_HELD, STALE, and else the release path for the port's holding and OK (R15). -/
def Obligations.ReleaseChecksAndReleases : Prop :=
  ∀ (s : State) (p : Port) (seq lock : Byte) (generation : Word16), CarriedOut s p seq (.release lock generation) →
    let u := s.carrying p seq (.release lock generation)
    (31 < lock.toNat → exec (.release p seq lock generation) s = .next (u.answer p .range [])) ∧
    (∀ l : LockId, lock.toNat = l.val →
      ((s.lock l).holderOf p = none → exec (.release p seq lock generation) s = .next (u.answer p .notHeld [])) ∧
      (∀ h, (s.lock l).holderOf p = some h → h.gen ≠ generation →
        exec (.release p seq lock generation) s = .next (u.answer p .stale [])) ∧
      (∀ h, (s.lock l).holderOf p = some h → h.gen = generation →
        exec (.release p seq lock generation) s = .next ((u.releasePath l [p] none).answer p .ok [])))

/-- CANCEL: NOT_WAITING without an entry; a queued entry is removed and the grant pass runs; from the target of a HANDOVER lock the
handover is aborted, the lock becomes VACATING from the port and a break order is sent (R48, R49).
DOWNGRADE: MODE on L0, on a bound lock and where sharing is off, NOT_HELD without an EXCLUSIVE holding, STALE for another
generation; else the holding becomes SHARED with its generation and hold remaining kept, and the grant pass runs (R17, R18). -/
def Obligations.CancelAndDowngrade : Prop :=
  (∀ (s : State) (p : Port) (seq : Byte) (l : LockId), CarriedOut s p seq (.cancel (argByte l)) → (s.lock l).Sound l →
     let u := s.carrying p seq (.cancel (argByte l))
     (p ∉ (s.lock l).queue.map Waiter.port → p ∉ ((s.lock l).target.map Waiter.port).toList →
       exec (.cancel p seq (argByte l)) s = .next (u.answer p .notWaiting [])) ∧
     (p ∈ (s.lock l).queue.map Waiter.port →
       exec (.cancel p seq (argByte l)) s = .next (((u.setLock l
         { s.lock l with queue := (s.lock l).queue.filter fun w => decide (w.port ≠ p) }).grantPass l none).answer p .ok
         [])) ∧
     (∀ g, p ∈ ((s.lock l).target.map Waiter.port).toList → (s.lock l).group = some g →
       exec (.cancel p seq (argByte l)) s = .next (((u.setLock l
         { s.lock l with state := .vacating, vacatingFrom := some p, target := none }).setGroup g
         { s.group g with orders := (s.group g).orders ++ [.breakRoute] }).answer p .ok []))) ∧
  (∀ (s : State) (p : Port) (seq : Byte) (l : LockId) (generation : Word16),
     CarriedOut s p seq (.downgrade (argByte l) generation) → (s.lock l).Sound l →
     let u := s.carrying p seq (.downgrade (argByte l) generation)
     let modeRefused := l = 0 ∨ (s.lock l).sharedAllowed = false ∨ (s.lock l).group ≠ none
     let holds := fun h : Holder => (s.lock l).holderOf p = some h ∧ h.mode = .exclusive
     (modeRefused → exec (.downgrade p seq (argByte l) generation) s = .next (u.answer p .mode [])) ∧
     (¬modeRefused → (∀ h, ¬holds h) →
       exec (.downgrade p seq (argByte l) generation) s = .next (u.answer p .notHeld [])) ∧
     (¬modeRefused → ∀ h, holds h → h.gen ≠ generation →
       exec (.downgrade p seq (argByte l) generation) s = .next (u.answer p .stale [])) ∧
     (¬modeRefused → ∀ h, holds h → h.gen = generation →
       exec (.downgrade p seq (argByte l) generation) s = .next (((u.setLock l
         { s.lock l with state := .shared, holders := [{ h with mode := .shared }] }).grantPass l none).answer p .ok [])))

/-- FORCE_RELEASE: NOT_HELD without a holder; else a REVOKED post with reason FORCED to each holder, one pass of the release path for
all of them, and OK with their number (R21). The REVOKED posts go before those of the grant pass (log 23). -/
def Obligations.ForceReleaseRemovesEveryHolder : Prop :=
  ∀ (s : State) (p : Port) (seq : Byte) (l : LockId), CarriedOut s p seq (.forceRelease (argByte l)) → l ≠ 0 →
    let u := s.carrying p seq (.forceRelease (argByte l))
    ((s.lock l).holders = [] → exec (.forceRelease p seq (argByte l)) s = .next (u.answer p .notHeld [])) ∧
    ((s.lock l).holders ≠ [] →
      exec (.forceRelease p seq (argByte l)) s = .next ((({ u with
        lockPosts := s.lockPosts ++ (s.lock l).holders.map fun h =>
          { port := h.port, notice := .revoked l h.gen .forced, cause := none } } : State).releasePath l
        ((s.lock l).holders.map Holder.port) none).answer p .ok [natByte (s.lock l).holders.length]))

/-! ### Commands that report: QUERY, HOLDINGS, STATUS, QUERY_ROUTE, PEEK -/

/-- QUERY reports one lock record in 30 bytes and changes no lock: state, attributes, generation, the holders in ascending order of
port, the waiters from the head, and the target or vacating port (R22; "QUERY data").
HOLDINGS reports four lock sets: held exclusive, held shared, waited on, blocking, bit n of the 32-bit value for Ln (R23;
"Sets"). -/
def Obligations.QueryAndHoldingsReportLocks : Prop :=
  (∀ (s : State) (p : Port) (seq : Byte) (l : LockId), CarriedOut s p seq (.query (argByte l)) → (s.lock l).Sound l →
     ∃ data, exec (.query p seq (argByte l)) s = .next ((s.carrying p seq (.query (argByte l))).answer p .ok data) ∧
       data.length = 30 ∧
       data.take 8 = [(s.lock l).state.code, boolByte (s.lock l).sharedAllowed] ++ wordBytes (s.lock l).holdLimit ++
         [portByte (s.lock l).group] ++ wordBytes (s.lock l).gen ++ [natByte (s.lock l).holders.length] ∧
       (∀ h ∈ (s.lock l).holders, ∀ k, k = (s.lock l).holders.countP (fun o => decide (o.port < h.port)) →
         (data.drop (8 + 4 * k)).take 4 = [natByte h.port.val, h.mode.code] ++ wordBytes h.gen) ∧
       (∀ k, (s.lock l).holders.length ≤ k → k < 4 →
         (data.drop (8 + 4 * k)).take 4 = [0xFF, 0xFF, 0xFF, 0xFF]) ∧
       data[24]? = some (natByte (s.lock l).queue.length) ∧
       (∀ k, k < 4 → data[25 + k]? = some (portByte (((s.lock l).queue.map Waiter.port)[k]?))) ∧
       data[29]? = some (portByte ((s.lock l).target.map Waiter.port <|> (s.lock l).vacatingFrom))) ∧
  (∀ (s : State) (p : Port) (seq : Byte), CarriedOut s p seq .holdings →
     ∃ a b c d : BitVec 32,
       exec (.holdings p seq) s = .next ((s.carrying p seq .holdings).answer p .ok
         (lockSetBytes a ++ lockSetBytes b ++ lockSetBytes c ++ lockSetBytes d)) ∧
       ∀ l : LockId,
         (a.getLsbD l.val = true ↔ ∃ h ∈ (s.lock l).holders, h.port = p ∧ h.mode = .exclusive) ∧
         (b.getLsbD l.val = true ↔ ∃ h ∈ (s.lock l).holders, h.port = p ∧ h.mode = .shared) ∧
         (c.getLsbD l.val = true ↔
           p ∈ (s.lock l).queue.map Waiter.port ∨ p ∈ ((s.lock l).target.map Waiter.port).toList) ∧
         (d.getLsbD l.val = true ↔
           (∃ w ∈ (s.lock l).queue, w.port = p ∧ w.blocking = true) ∨
           (∃ w ∈ (s.lock l).target, w.port = p ∧ w.blocking = true)))

/-- STATUS reports the port's session with its counts, and clears the port's link-error flag; the lease is read after the renewal,
and the flag as it stood (R102, R103; "STATUS data").
QUERY_ROUTE reports one group in six bytes and changes nothing (R80; "QUERY_ROUTE data"). -/
def Obligations.StatusAndQueryRouteReport : Prop :=
  (∀ (s : State) (p : Port) (seq : Byte), CarriedOut s p seq .status →
     let u := s.carrying p seq .status
     let x := (s.session p).renewed
     ∃ holder : Byte,
       ((∀ q, s.hasAuthority q = false) → holder = 0xFF) ∧
       (∀ q, (s.lock 0).holders.map Holder.port = [q] → s.hasAuthority q = true → holder = natByte q.val) ∧
       exec (.status p seq) s = .next ((u.setEngine p { u.engine p with linkError := false }).answer p .ok
         ([x.state.code, x.endReason.code, x.epoch, natByte x.prio.val] ++ wordBytes x.lease ++
           [natByte (s.noticeQueue p).records.length, natByte (s.inbound p).queue.length,
            natByte (allCells.countP fun c => (s.cell c).isNone), holder,
            boolByte (s.noticeQueue p).lost + 2 * boolByte (u.engine p).linkError, (s.engine p).strap.setWidth 8]))) ∧
  (∀ (s : State) (p : Port) (seq : Byte) (g : GroupId), CarriedOut s p seq (.queryRoute (argByte g)) →
     exec (.queryRoute p seq (argByte g)) s = .next ((s.carrying p seq (.queryRoute (argByte g))).answer p .ok
       [(s.group g).state.code, (match (s.group g).lock with
         | some l => natByte l.val
         | none => 0xFF), natByte (s.group g).select.val,
        boolByte (s.group g).enable + 2 * boolByte (s.group g).senseFiltered + 4 * boolByte (s.group g).clearing,
        (s.group g).guardUnits, (s.group g).confirmMs]))

/-! ### Messages -/

/-- TAKE removes the oldest message, returns its record, lowers the reference count of its cell, frees the cell at 0, and posts a
TAKEN receipt if one is requested and the sender's session is OPEN with the source epoch. PEEK returns the same record and
changes nothing. On an empty queue both answer EMPTY (R116, R117, R121, R107). -/
def Obligations.TakeAndPeekReturnTheOldestMessage : Prop :=
  ∀ (s : State) (p : Port) (seq : Byte), CarriedOut s p seq .take → CarriedOut s p seq .peek →
    ((s.inbound p).queue = [] →
      exec (.take p seq) s = .next ((s.carrying p seq .take).answer p .empty []) ∧
      exec (.peek p seq) s = .next ((s.carrying p seq .peek).answer p .empty [])) ∧
    (∀ c rest x, (s.inbound p).queue = c :: rest → s.cell c = some x →
      let data := [natByte x.source.val, x.epoch, x.tag] ++ wordBytes x.number ++
        [boolByte x.receipt + 2 * boolByte x.broadcast, natByte x.payload.length] ++ x.payload
      let u := ((s.carrying p seq .take).setInbound p { s.inbound p with queue := rest }).setCell c
        (if x.refs ≤ 1 then none else some { x with refs := x.refs - 1 })
      exec (.take p seq) s = .next (({ u with
        messagePosts :=
          if x.receipt = true ∧ (s.session x.source).state = .opened ∧ (s.session x.source).epoch = x.epoch then
            s.messagePosts ++ [{ port := x.source, notice := .receipt p x.number .taken, cause := none }]
          else s.messagePosts } : State).answer p .ok data) ∧
      exec (.peek p seq) s = .next ((s.carrying p seq .peek).answer p .ok data))

/-- The flush empties one inbound queue: every cell it named loses one reference and is free at 0, the cells it did not name stay,
and the DISCARDED receipts that are owed are posted in queue order, each if the sender's session is OPEN with the source epoch
(R120, R121).
FLUSH runs the flush and answers the number of references removed (R119). The third step of a teardown runs it too, when the
session block has handed it on (R98, R133). -/
def Obligations.FlushEmptiesOneQueue : Prop :=
  (∀ (s : State) (p : Port) (cause : Option Port), s.PoolSound →
     let t := s.flushQueue p cause
     t.inbound p = { s.inbound p with queue := [] } ∧
     (∀ c, c ∉ (s.inbound p).queue → t.cell c = s.cell c) ∧
     (∀ c ∈ (s.inbound p).queue, ∃ x, s.cell c = some x ∧
       t.cell c = if x.refs = 1 then none else some { x with refs := x.refs - 1 }) ∧
     t.messagePosts = s.messagePosts ++ (s.inbound p).queue.filterMap (fun c =>
       (s.cell c).bind fun x =>
         if x.receipt = true ∧ (s.session x.source).state = .opened ∧ (s.session x.source).epoch = x.epoch then
           some { port := x.source, notice := .receipt p x.number .discarded, cause := cause }
         else none) ∧
     UnchangedBut { inbounds := [p], cells := (s.inbound p).queue, messagePosts := true } s t) ∧
  (∀ (s : State) (p : Port) (seq : Byte), CarriedOut s p seq .flush →
    exec (.flush p seq) s = .next (((s.carrying p seq .flush).flushQueue p none).answer p .ok
      [natByte (s.inbound p).queue.length])) ∧
  (∀ (s : State) (p : Port) (t : Teardown), s.teardownStep p = some t → t.step = .flush → t.taken = false →
    exec (.teardownFlush p) s = .next ((s.flushQueue p (some p)).setSession p
      { s.session p with teardown := some { t with taken := true } }))

/-- An accepted SEND: one free cell is taken for the message, the sender's counter steps to the new number, one reference is appended
to the queue of each destination, and the response carries the number and the set of destinations. A broadcast goes to every
other port whose session is OPEN (R112, R114, R115).
The refusals of a SEND, in their order: PEER_ABSENT when no destination is OPEN, QUEUE_FULL when one destination's queue is at its
quota, SEND_CAP when the sender's outstanding count is at its send cap, POOL_EMPTY when no cell is free (R112, R113). -/
def Obligations.SendFillsACellOrIsRefused : Prop :=
  (∀ (s : State) (p : Port) (seq dest tag : Byte) (receipt : Bool) (payload : List Byte) (dests : List Port),
     CarriedOut s p seq (.send dest tag (boolByte receipt) payload) →
     (dest = 0xFF ∧ dests = (allPorts.filter fun q => decide (q ≠ p ∧ (s.session q).state = .opened)) ∨
       ∃ q, dest = argByte q ∧ q ≠ p ∧ (s.session q).state = .opened ∧ dests = [q]) →
     dests ≠ [] → (∀ q ∈ dests, (s.inbound q).queue.length < (s.inbound q).quota.toNat) →
     s.outstanding p < (s.inbound p).sendCap.toNat → 0 < s.poolFree →
     let number := if (s.inbound p).number = 65535 then 1 else (s.inbound p).number + 1
     ∃ c t, s.cell c = none ∧ exec (.send p seq dest tag (boolByte receipt) payload) s = .next t ∧
       t.engine p = (((s.carrying p seq (.send dest tag (boolByte receipt) payload)).answer p .ok
         (wordBytes number ++
           [portSetByte fun q => decide (q ∈ dests)])).engine p) ∧
       t.session p = (s.session p).renewed ∧
       t.cell c = some { source := p, epoch := (s.session p).epoch, number := number, tag := tag,
                         receipt := receipt, broadcast := decide (dest = 0xFF), payload := payload, refs := dests.length } ∧
       (∀ q, t.inbound q =
         { s.inbound q with
           number := if q = p then number else (s.inbound q).number
           queue := if q ∈ dests then (s.inbound q).queue ++ [c] else (s.inbound q).queue }) ∧
       UnchangedBut { engines := [p], sessions := [p], cells := [c], inbounds := allPorts } s t) ∧
  (∀ (s : State) (p : Port) (seq dest tag : Byte) (receipt : Bool) (payload : List Byte) (dests : List Port),
     CarriedOut s p seq (.send dest tag (boolByte receipt) payload) →
     (dest = 0xFF ∧ dests = (allPorts.filter fun q => decide (q ≠ p ∧ (s.session q).state = .opened)) ∨
       ∃ q, dest = argByte q ∧ q ≠ p ∧ dests = if (s.session q).state = .opened then [q] else []) →
     let full := ∃ q ∈ dests, (s.inbound q).quota.toNat ≤ (s.inbound q).queue.length
     let capped := (s.inbound p).sendCap.toNat ≤ s.outstanding p
     let refused := fun st => exec (.send p seq dest tag (boolByte receipt) payload) s =
       .next ((s.carrying p seq (.send dest tag (boolByte receipt) payload)).answer p st [])
     (dests = [] → refused .peerAbsent) ∧
     (dests ≠ [] → full → refused .queueFull) ∧
     (dests ≠ [] → ¬full → capped → refused .sendCap) ∧
     (dests ≠ [] → ¬full → ¬capped → s.poolFree = 0 → refused .poolEmpty))

/-! ### Notices and the attention line -/

/-- A post is taken against the session state of its port: dropped when it is not OPEN, appended when fewer than 16 records stand
in the queue, and dropped with the lost flag set on a full queue. The oldest post of each sending block is taken first
(R132, R133, R134). From the notice block's arrival of a RESTART to its end every post is dropped (R146).
The ATTN line of a port is asserted exactly while its session is OPEN and a notice stands with the enable on, or the inbound length
is at a threshold that is not 0, or the lost flag is set (R139); from the notice block's arrival of a RESTART to its end it is
deasserted, whatever session and queue hold until their blocks have taken the RESTART (R146, R159; that it stays so is log 34). -/
def Obligations.PostsAndTheAttentionLine : Prop :=
  (∀ (s : State) (source : PostSource) (x : Post) (rest : List Post),
     (match source with
       | .lockTable => s.lockPosts
       | .sessionBlock => s.sessionPosts
       | .messageBlock => s.messagePosts) = x :: rest →
     let u := match source with
       | .lockTable => { s with lockPosts := rest }
       | .sessionBlock => { s with sessionPosts := rest }
       | .messageBlock => { s with messagePosts := rest }
     let dropping := ∃ r ∈ s.restart, r.noticeTaken = true
     let q := s.noticeQueue x.port
     (dropping ∨ (s.session x.port).state ≠ .opened → exec (.noticePost source) s = .next u) ∧
     (¬dropping → (s.session x.port).state = .opened → q.records.length < 16 →
       exec (.noticePost source) s = .next (u.setNoticeQueue x.port { q with records := q.records ++ [x.notice] })) ∧
     (¬dropping → (s.session x.port).state = .opened → 16 ≤ q.records.length →
       exec (.noticePost source) s = .next (u.setNoticeQueue x.port { q with lost := true }))) ∧
  (∀ (s : State) (p : Port),
     ((∃ r ∈ s.restart, r.noticeTaken = true) → s.attn p = false) ∧
     ((∀ r ∈ s.restart, r.noticeTaken = false) →
       (s.attn p = true ↔
         (s.session p).state = .opened ∧
           ((s.session p).noticeAttn = true ∧ (s.noticeQueue p).records ≠ [] ∨
            (s.session p).threshold ≠ 0 ∧ (s.session p).threshold.toNat ≤ (s.inbound p).queue.length ∨
            (s.noticeQueue p).lost = true))))

/-- TAKE_NOTICE removes the record at the head and returns it in five bytes behind the flags item, which carries the lost flag as it
stood in bit 7 and the number of records left; on an empty queue it answers EMPTY with the flags item. It clears the lost flag
(R135, R136, R137). -/
def Obligations.TakeNoticeReturnsTheHead : Prop :=
  ∀ (s : State) (p : Port) (seq : Byte), CarriedOut s p seq .takeNotice → (s.noticeQueue p).records.length ≤ 16 →
    let u := s.carrying p seq .takeNotice
    let lost := 128 * boolByte (s.noticeQueue p).lost
    ((s.noticeQueue p).records = [] →
      exec (.takeNotice p seq) s = .next ((u.setNoticeQueue p { records := [], lost := false }).answer p .empty
        [lost])) ∧
    (∀ n rest, (s.noticeQueue p).records = n :: rest →
      ∃ record, record.length = 5 ∧
        exec (.takeNotice p seq) s = .next ((u.setNoticeQueue p { records := rest, lost := false }).answer p .ok
          ((lost + natByte rest.length) :: record)) ∧
        (∀ l m gen, n = .granted l m gen → record = [0x01, natByte l.val, m.code] ++ wordBytes gen) ∧
        (∀ l, n = .waitExpired l → record = [0x02, natByte l.val, 0, 0, 0]) ∧
        (∀ l, n = .waitFailed l → record = [0x03, natByte l.val, 3, 0, 0]) ∧
        (∀ l gen reason, n = .revoked l gen reason →
          record = [0x04, natByte l.val] ++ wordBytes gen ++ [reason.code]) ∧
        (∀ q number outcome, n = .receipt q number outcome →
          record = [0x05, natByte q.val] ++ wordBytes number ++ [outcome.code]) ∧
        (∀ q epoch, n = .peerOpened q epoch → record = [0x06, natByte q.val, epoch, 0, 0]) ∧
        (∀ q epoch reason, n = .peerEnded q epoch reason →
          record = [0x07, natByte q.val, epoch, reason.code, 0]))

/-! ### Sessions -/

/-- OPEN in CLOSED steps the epoch, sets the lease, the priority not above the cap, the threshold and the enable, leaves the end
reason, posts PEER_OPENED to each other OPEN port, and answers epoch, priority and end reason. In OPEN and ENDING it is refused
with STATE (R86, R87, R88, R89). -/
def Obligations.OpenMakesASession : Prop :=
  ∀ (s : State) (p : Port) (seq : Byte) (lease : Word16) (prio : Prio) (threshold : Byte) (enable : Bool),
    let cmd : HostCommand := .openSession lease (argByte prio) threshold (boolByte enable)
    CarriedOut s p seq cmd → 100 ≤ lease.toNat → lease.toNat ≤ 60000 → threshold.toNat ≤ 32 →
    ((s.session p).state ≠ .closed →
      exec (cmd.instr p seq) s = .next ((s.carrying p seq cmd).answer p .state [])) ∧
    ((s.session p).state = .closed →
      let x := s.session p
      let y := { x with
        state := .opened, epoch := if x.epoch = 255 then 1 else x.epoch + 1, leasePeriod := lease, lease := lease,
        prio := if prio ≤ x.cap then prio else x.cap, threshold := threshold, noticeAttn := enable, awaiter := none,
        teardown := none }
      ∃ t, exec (cmd.instr p seq) s = .next t ∧ t.session p = y ∧
        t.engine p =
          ((s.carrying p seq cmd).answer p .ok [y.epoch, natByte y.prio.val, x.endReason.code]).engine p ∧
        (∀ q, t.sessionPosts.filter (fun o => decide (o.port = q)) =
          s.sessionPosts.filter (fun o => decide (o.port = q)) ++
            if q ≠ p ∧ (s.session q).state = .opened then
              [{ port := q, notice := .peerOpened p y.epoch, cause := none }]
            else []) ∧
        UnchangedBut { engines := [p], sessions := [p], sessionPosts := true } s t)

/-- CLOSE of a CLOSED port answers OK and changes nothing; of an OPEN port it begins a teardown with reason CLOSED, and the engine
waits in EXECUTING. EXPEL begins one of another OPEN port with reason EXPELLED, and is refused with STATE otherwise. The expiry
of the lease of an OPEN session, when it has reached zero, begins one with reason LAPSED and no awaiter; with lease left, as after
a renewal taken first, and in any other state no expiry takes place (R91, R93 to R96). -/
def Obligations.TeardownBegins : Prop :=
  (∀ (s : State) (p : Port) (seq : Byte), CarriedOut s p seq .close →
    ((s.session p).state = .closed → exec (.close p seq) s = .next ((s.carrying p seq .close).answer p .ok [])) ∧
    ((s.session p).state = .opened → exec (.close p seq) s = .next (((s.carrying p seq .close).setSession p
      { s.session p with
        state := .ending, lease := 0, endReason := .closed, awaiter := some p
        teardown := some { step := .holdings, locks := 0, taken := false } }).holdOn p .ownTeardown))) ∧
  (∀ (s : State) (p q : Port) (seq : Byte), CarriedOut s p seq (.expel (argByte q)) →
    (q = p ∨ (s.session q).state ≠ .opened →
      exec (.expel p seq (argByte q)) s = .next ((s.carrying p seq (.expel (argByte q))).answer p .state [])) ∧
    (q ≠ p → (s.session q).state = .opened →
      exec (.expel p seq (argByte q)) s = .next (((s.carrying p seq (.expel (argByte q))).setSession q
        { s.session q with
          state := .ending, lease := 0, endReason := .expelled, awaiter := some p
          teardown := some { step := .holdings, locks := 0, taken := false } }).holdOn p (.teardownOf q)))) ∧
  (∀ (s : State) (p : Port),
    ((s.session p).state = .opened → (s.session p).lease = 0 →
      exec (.leaseExpiry p) s = .next (s.setSession p
        { s.session p with
          state := .ending, lease := 0, endReason := .lapsed, awaiter := none
          teardown := some { step := .holdings, locks := 0, taken := false } })) ∧
    ((s.session p).state ≠ .opened ∨ (s.session p).lease ≠ 0 → exec (.leaseExpiry p) s = .next s))

/-- The five steps of a teardown follow one another: while a lock has not taken the first step, or a post that the step has sent has
not been taken, no later step can be taken (R97, R133). Then the next step is handed on, and it is discarded at a block that has
taken the RESTART in progress (R105; log 18). -/
def Obligations.TeardownStepsFollowOneAnother : Prop :=
  ∀ (s : State) (p : Port) (t : Teardown), (s.session p).teardown = some t →
    (t.step = .holdings → t.locks ≠ BitVec.allOnes 32 ∨
      (∃ x ∈ s.lockPosts ++ s.sessionPosts ++ s.messagePosts, x.cause = some p) →
      (∀ l, exec (.teardownWaits p l) s = .next s) ∧ exec (.teardownFlush p) s = .next s ∧
        exec (.teardownPeerEnded p) s = .next s ∧ exec (.teardownEnd p) s = .next s) ∧
    (t.step = .waits → t.locks ≠ BitVec.allOnes 32 ∨
      (∃ x ∈ s.lockPosts ++ s.sessionPosts ++ s.messagePosts, x.cause = some p) →
      exec (.teardownFlush p) s = .next s ∧ exec (.teardownPeerEnded p) s = .next s ∧
        exec (.teardownEnd p) s = .next s) ∧
    (t.step = .flush → t.taken = false ∨
      (∃ x ∈ s.lockPosts ++ s.sessionPosts ++ s.messagePosts, x.cause = some p) →
      exec (.teardownPeerEnded p) s = .next s ∧ exec (.teardownEnd p) s = .next s) ∧
    (t.step = .peerEnded → t.taken = false ∨
      (∃ x ∈ s.lockPosts ++ s.sessionPosts ++ s.messagePosts, x.cause = some p) →
      exec (.teardownEnd p) s = .next s) ∧
    ((s.session p).state = .ending → t.step ≠ .finish → t.stepTaken = true →
      (∀ x ∈ s.lockPosts ++ s.sessionPosts ++ s.messagePosts, x.cause ≠ some p) →
      s.teardownStep p =
        if ∃ r ∈ s.restart, r.takenBy t.step.next.block = true then none
        else some { step := t.step.next, locks := 0, taken := false })

/-- The first two steps of a teardown at one lock, each marked as taken there: the holding is removed by the release path without a
REVOKED notice; then the waiter entry is removed and the grant pass runs, a handover toward the port is aborted, a holding gained
since is removed, and a blocking entry ends its frame with ABORTED (R97, R51). -/
def Obligations.TeardownLockSteps : Prop :=
  ∀ (s : State) (p : Port) (l : LockId) (t : Teardown), s.teardownStep p = some t → t.locks.getLsbD l.val = false →
    (s.lock l).Sound l →
    let marked := fun u : State => u.setSession p
      { s.session p with teardown := some { t with locks := t.locks ||| BitVec.twoPow 32 l.val } }
    let aborted := fun u : State => u.setEngine p
      { u.engine p with handed := if (u.engine p).handed = none then some .aborted else (u.engine p).handed }
    let holds := p ∈ (s.lock l).holders.map Holder.port
    (t.step = .holdings → ¬holds → exec (.teardownHoldings p l) s = .next (marked s)) ∧
    (t.step = .holdings → holds →
      exec (.teardownHoldings p l) s = .next (marked (s.releasePath l [p] (some p)))) ∧
    (t.step = .waits → ¬holds → p ∉ (s.lock l).queue.map Waiter.port →
      p ∉ ((s.lock l).target.map Waiter.port).toList → exec (.teardownWaits p l) s = .next (marked s)) ∧
    (t.step = .waits → holds → p ∉ (s.lock l).queue.map Waiter.port →
      exec (.teardownWaits p l) s = .next (marked (s.releasePath l [p] (some p)))) ∧
    (∀ w ∈ (s.lock l).queue, t.step = .waits → ¬holds → w.port = p →
      let u := (s.setLock l { s.lock l with
        queue := (s.lock l).queue.filter fun o => decide (o.port ≠ p) }).grantPass l (some p)
      exec (.teardownWaits p l) s = .next (marked (if w.blocking = true then aborted u else u))) ∧
    (∀ w ∈ (s.lock l).target, ∀ g ∈ (s.lock l).group, t.step = .waits → w.port = p →
      let u := (s.setLock l { s.lock l with state := .vacating, vacatingFrom := some p, target := none }).setGroup g
        { s.group g with orders := (s.group g).orders ++ [.breakRoute] }
      exec (.teardownWaits p l) s = .next (marked (if w.blocking = true then aborted u else u)))

/-- The last two steps: PEER_ENDED, with the epoch and the reason, is posted to each other OPEN port; then the port's notice queue is
emptied and its lost flag cleared, the receipts and the other guarded notices still on their way to it are discarded with the rest
(R126, R138; which ones is log 33), the session becomes CLOSED with the end reason and the epoch kept, and the awaiter's waiting
engine stores OK (R99, R100, R93, R95). -/
def Obligations.TeardownPeerStepAndEnd : Prop :=
  ∀ (s : State) (p : Port) (td : Teardown), s.teardownStep p = some td → td.taken = false →
    (td.step = .peerEnded → ∃ t, exec (.teardownPeerEnded p) s = .next t ∧
      (∀ q, t.sessionPosts.filter (fun o => decide (o.port = q)) =
        s.sessionPosts.filter (fun o => decide (o.port = q)) ++
          if q ≠ p ∧ (s.session q).state = .opened then
            [{ port := q, notice := .peerEnded p (s.session p).epoch (s.session p).endReason, cause := some p }]
          else []) ∧
      t.session p = { s.session p with teardown := some { td with taken := true } } ∧
      UnchangedBut { sessions := [p], sessionPosts := true } s t) ∧
    (td.step = .finish → (s.session p).state = .ending →
      let others := fun posts : List Post => posts.filter fun x => decide (¬(x.notice.guarded = true ∧ x.port = p))
      let v : State := { s with lockPosts := others s.lockPosts, messagePosts := others s.messagePosts }
      let u := (v.setNoticeQueue p { records := [], lost := false }).setSession p
        { s.session p with
          state := .closed, leasePeriod := 0, lease := 0, prio := 0, threshold := 0, noticeAttn := false, awaiter := none
          teardown := none }
      ((s.session p).awaiter = none → exec (.teardownEnd p) s = .next u) ∧
      (∀ a, (s.session p).awaiter = some a → (s.engine a).state = .executing → (s.engine a).stageDeferred = false →
        (s.engine a).wait = (if a = p then .ownTeardown else .teardownOf p) →
        exec (.teardownEnd p) s = .next (u.answer a .ok [])))

/-! ### Configuration -/

/-- SET_LOCK_ATTR: RANGE for L0, for a lock above 31 and for a shared value that is neither 0 nor 1; BUSY when it would turn sharing
off on a lock that is SHARED or has a SHARED waiter; else both attributes are written and nothing else of the lock (R151). -/
def Obligations.SetLockAttrWritesBothAttributes : Prop :=
  ∀ (s : State) (p : Port) (seq lock shared : Byte) (hold : Word16),
    CarriedOut s p seq (.setLockAttr lock shared hold) →
    let u := s.carrying p seq (.setLockAttr lock shared hold)
    (lock.toNat = 0 ∨ 31 < lock.toNat ∨ 1 < shared.toNat →
      exec (.setLockAttr p seq lock shared hold) s = .next (u.answer p .range [])) ∧
    (∀ l : LockId, lock.toNat = l.val → l ≠ 0 →
      let busy := (s.lock l).state = .shared ∨ ∃ w ∈ (s.lock l).queue, w.req = .shared
      (shared = 0 → busy → exec (.setLockAttr p seq lock shared hold) s = .next (u.answer p .busy [])) ∧
      (shared = 1 ∨ shared = 0 ∧ ¬busy →
        exec (.setLockAttr p seq lock shared hold) s = .next ((u.setLock l
          { s.lock l with sharedAllowed := decide (shared = 1), holdLimit := hold }).answer p .ok [])))

/-- An accepted SET_PORT_LIMITS stores the values at the configuration block and waits in EXECUTING while the session block, the
message block and the port engine take them, each as one arrival; a lower cap lowers the effective priority of a session that
is not CLOSED, and nothing else changes. When the last of the three has taken them the requester's engine stores OK
(R154 to R157). -/
def Obligations.SetPortLimitsReachesThreeBlocks : Prop :=
  (∀ (s : State) (p q : Port) (seq quota sendCap stretch : Byte) (cap : Prio),
    CarriedOut s p seq (.setPortLimits (argByte q) (argByte cap) quota sendCap stretch) →
    limitsInRange quota sendCap stretch →
    exec (.setPortLimits p seq (argByte q) (argByte cap) quota sendCap stretch) s =
      .next (((s.carrying p seq (.setPortLimits (argByte q) (argByte cap) quota sendCap stretch)).setLimit q
        { cap := cap, quota := quota, sendCap := sendCap, stretch := stretch }).holdOn p (.portLimits
        { port := q, cap := cap, quota := quota, sendCap := sendCap, stretch := stretch, sessionTaken := false,
          messageTaken := false, engineTaken := false }))) ∧
  (∀ (s : State) (p : Port) (h : LimitsHandover), (s.engine p).state = .executing →
    (s.engine p).wait = .portLimits h → (s.engine p).stageDeferred = false →
    let finish := fun (u : State) (h' : LimitsHandover) =>
      if h'.sessionTaken = true ∧ h'.messageTaken = true ∧ h'.engineTaken = true then u.answer p .ok []
      else u.holdOn p (.portLimits h')
    (h.sessionTaken = false →
      exec (.newPortLimitsTaken p .session) s = .next (finish (s.setSession h.port
        { s.session h.port with
          cap := h.cap
          prio := if (s.session h.port).state ≠ .closed ∧ h.cap < (s.session h.port).prio then h.cap
            else (s.session h.port).prio }) { h with sessionTaken := true })) ∧
    (h.messageTaken = false →
      exec (.newPortLimitsTaken p .message) s = .next (finish (s.setInbound h.port
        { s.inbound h.port with quota := h.quota, sendCap := h.sendCap }) { h with messageTaken := true })) ∧
    (h.engineTaken = false →
      exec (.newPortLimitsTaken p .engine) s = .next (finish (s.setEngine h.port
        { s.engine h.port with stretchCopy := h.stretch }) { h with engineTaken := true })))

/-- BIND_ROUTE: RANGE for a group above 3, for L0, for a lock above 31 and for guard time 0; BUSY unless the group is UNBOUND and
the lock is FREE, not bound and without waiters; else group and lock are joined, and the group is BROKEN (R76).
UNBIND_ROUTE: STATE for an UNBOUND group; accepted when the group is BROKEN and its lock FREE, or the group in FAULT and its lock
FAULTED, with an empty queue, and BUSY otherwise; then the group is UNBOUND with its times and select value 0 and the lock is
free of it (R77). CLEAR_ROUTE_FAULT: STATE outside FAULT; else clearing is yes and the guard timer starts with the full guard
time, also when it was running (R78). -/
def Obligations.BindUnbindAndClearRouteFault : Prop :=
  (∀ (s : State) (p : Port) (seq group lock guardTime confirmTime : Byte),
     CarriedOut s p seq (.bindRoute group lock guardTime confirmTime) →
     let u := s.carrying p seq (.bindRoute group lock guardTime confirmTime)
     (3 < group.toNat ∨ lock.toNat = 0 ∨ 31 < lock.toNat ∨ guardTime = 0 →
       exec (.bindRoute p seq group lock guardTime confirmTime) s = .next (u.answer p .range [])) ∧
     (∀ (g : GroupId) (l : LockId), group.toNat = g.val → lock.toNat = l.val → l ≠ 0 → guardTime ≠ 0 →
       let free := (s.group g).state = .unbound ∧ (s.lock l).group = none ∧ (s.lock l).state = .free ∧
         (s.lock l).queue = []
       (¬free → exec (.bindRoute p seq group lock guardTime confirmTime) s = .next (u.answer p .busy [])) ∧
       (free → exec (.bindRoute p seq group lock guardTime confirmTime) s = .next (((u.setGroup g
         { s.group g with
           state := .broken, lock := some l, guardUnits := guardTime, confirmMs := confirmTime, select := 0,
           enable := false, timer := .stopped, clearing := false }).setLock l
         { s.lock l with group := some g }).answer p .ok [])))) ∧
  (∀ (s : State) (p : Port) (seq : Byte) (g : GroupId), CarriedOut s p seq (.unbindRoute (argByte g)) →
    let u := s.carrying p seq (.unbindRoute (argByte g))
    ((s.group g).state = .unbound →
      exec (.unbindRoute p seq (argByte g)) s = .next (u.answer p .state [])) ∧
    (∀ l, (s.group g).state ≠ .unbound → (s.group g).lock = some l →
      let apart := ((s.group g).state = .broken ∧ (s.lock l).state = .free ∨
        (s.group g).state = .fault ∧ (s.lock l).state = .faulted) ∧ (s.lock l).queue = []
      (¬apart → exec (.unbindRoute p seq (argByte g)) s = .next (u.answer p .busy [])) ∧
      (apart → exec (.unbindRoute p seq (argByte g)) s = .next (((u.setGroup g
        { s.group g with
          state := .unbound, lock := none, guardUnits := 0, confirmMs := 0, select := 0, timer := .stopped
          clearing := false }).setLock l { s.lock l with group := none, state := .free }).answer p .ok [])))) ∧
  (∀ (s : State) (p : Port) (seq : Byte) (g : GroupId), CarriedOut s p seq (.clearRouteFault (argByte g)) →
    let u := s.carrying p seq (.clearRouteFault (argByte g))
    ((s.group g).state ≠ .fault →
      exec (.clearRouteFault p seq (argByte g)) s = .next (u.answer p .state [])) ∧
    ((s.group g).state = .fault →
      exec (.clearRouteFault p seq (argByte g)) s = .next ((u.setGroup g
        { s.group g with clearing := true, timer := .guardTime (s.group g).guardUnits.toNat }).answer p .ok [])))

/-! ### RESTART -/

/-- The first stage of an accepted RESTART: the requester waits in EXECUTING; every other engine loses its sequence memory and stores
RESTARTED, but a STRETCHED one keeps its record and will store ABORTED, and one that waits for its own teardown waits on for the
end of the RESTART (R158). What an engine that waits for another port's teardown or for port limits does is log 16. -/
def Obligations.RestartFirstStageReachesTheEngines : Prop :=
  ∀ (s : State) (p : Port) (seq : Byte), CarriedOut s p seq .restart →
    ∃ t, exec (.restart p seq) s = .next t ∧
      t.engine p = { (s.engine p).carrying seq .restart with wait := .restartStages } ∧
      t.session p = (s.session p).renewed ∧
      t.restart = some { requester := p, sessionTaken := false, lockTaken := false, messageTaken := false,
                         noticeTaken := false } ∧
      (∀ q, q ≠ p →
        ((s.engine q).state ≠ .executing → (s.engine q).state ≠ .stretched →
          t.engine q = { s.engine q with memory := none, resp := { status := .restarted, echo := 0, data := [] } }) ∧
        ((s.engine q).state = .stretched →
          t.engine q = { s.engine q with memory := none, abortEndings := true }) ∧
        ((s.engine q).state = .executing → (s.engine q).wait = .ownTeardown →
          t.engine q = { s.engine q with
            memory := none, resp := { status := .restarted, echo := 0, data := [] }, wait := .restartEnd })) ∧
      UnchangedBut { engines := allPorts, sessions := [p], restart := true } s t

/-- The second stage at the session block closes every session with end reason RESTART and keeps epochs and caps (R105); at the
message block it empties every queue and frees every cell, with the numbers at 0 and the limits kept (R129); at the notice
block it empties every queue, clears every lost flag and deasserts every ATTN line (R146). The session block hands no further
teardown step, and a step in flight to a block that takes the RESTART is discarded there and posts nothing (R105; log 18). A guarded
post in flight when the sessions end is discarded (R138; log 33). -/
def Obligations.RestartSecondStageAtThreeBlocks : Prop :=
  ∀ (s : State) (r : Restart), s.restart = some r → (∀ p, (s.engine p).stageDeferred = false) →
    (r.sessionTaken = false → ∃ t, exec (.restartSecondStage .session) s = .next t ∧
      (∀ p, (t.session p).state = .closed ∧ (t.session p).endReason = .restart ∧ (t.session p).lease = 0 ∧
        (t.session p).leasePeriod = 0 ∧ (t.session p).prio = 0 ∧ (t.session p).threshold = 0 ∧
        (t.session p).noticeAttn = false ∧ (t.session p).awaiter = none ∧
        (t.session p).epoch = (s.session p).epoch ∧ (t.session p).cap = (s.session p).cap ∧
        (t.session p).teardown = (s.teardownStep p).filter fun x => !x.stepTaken) ∧
      t.lockPosts = s.lockPosts.filter (fun x => !x.notice.guarded) ∧
      t.messagePosts = s.messagePosts.filter (fun x => !x.notice.guarded) ∧
      t.restart = some { r with sessionTaken := true } ∧
      UnchangedBut { sessions := allPorts, lockPosts := true, messagePosts := true, restart := true } s t) ∧
    (r.messageTaken = false → ∃ t, exec (.restartSecondStage .message) s = .next t ∧
      (∀ c, t.cell c = none) ∧ (∀ p, t.inbound p = { s.inbound p with queue := [], number := 0 }) ∧
      (∀ p, exec (.teardownFlush p) t = .next t) ∧
      t.restart = some { r with messageTaken := true } ∧
      UnchangedBut { cells := allCells, inbounds := allPorts, restart := true } s t) ∧
    (r.noticeTaken = false → ∃ t, exec (.restartSecondStage .notice) s = .next t ∧
      (∀ p, t.noticeQueue p = { records := [], lost := false } ∧ t.attn p = false) ∧
      (∀ p, exec (.teardownPeerEnded p) t = .next t ∧ exec (.teardownEnd p) t = .next t) ∧
      t.restart = some { r with noticeTaken := true } ∧
      UnchangedBut { notices := allPorts, restart := true } s t)

/-- The second stage at the lock table and the route block: every holder, waiter and target is gone without a notice, a blocking
entry hands ABORTED, unbound locks are FREE, a bound EXCLUSIVE or HANDOVER lock is VACATING from its group's select value, and
the rest of a lock stays; orders in flight are gone, reports stay, groups in MAKING or MADE, and BROKEN groups that had a make
order on its way, break for the full guard time (R25, R52, R82). A teardown step in flight to a lock is discarded there (R105). -/
def Obligations.RestartSecondStageAtLocksAndGroups : Prop :=
  ∀ (s : State) (r : Restart), s.restart = some r → (∀ p, (s.engine p).stageDeferred = false) → r.lockTaken = false →
    s.LocksSound → ∃ t, exec (.restartSecondStage .lockAndRoute) s = .next t ∧
      (∀ l, (t.lock l).holders = [] ∧ (t.lock l).queue = [] ∧ (t.lock l).target = none ∧
        (t.lock l).gen = (s.lock l).gen ∧ (t.lock l).sharedAllowed = (s.lock l).sharedAllowed ∧
        (t.lock l).holdLimit = (s.lock l).holdLimit ∧ (t.lock l).group = (s.lock l).group ∧
        ((s.lock l).group = none → (t.lock l).state = .free) ∧
        (∀ g, (s.lock l).group = some g →
          ((s.lock l).state = .exclusive ∨ (s.lock l).state = .handover →
            (t.lock l).state = .vacating ∧ (t.lock l).vacatingFrom = some (s.group g).select) ∧
          ((s.lock l).state ≠ .exclusive → (s.lock l).state ≠ .handover →
            (t.lock l).state = (s.lock l).state ∧ (t.lock l).vacatingFrom = (s.lock l).vacatingFrom))) ∧
      (∀ g,
        let breaks := (s.group g).state = .making ∨ (s.group g).state = .made ∨
          (s.group g).state = .broken ∧ ∃ o ∈ (s.group g).orders, o ≠ .breakRoute
        (breaks → t.group g =
          { s.group g with
            orders := [], state := .breaking, enable := false, timer := .guardTime (s.group g).guardUnits.toNat }) ∧
        (¬breaks → t.group g = { s.group g with orders := [] })) ∧
      (∀ p, t.engine p = { s.engine p with
        handed := if (s.engine p).handed = none ∧ (∃ l, (s.lock l).blocks p = true) then some .aborted
          else (s.engine p).handed }) ∧
      (∀ p l, exec (.teardownHoldings p l) t = .next t ∧ exec (.teardownWaits p l) t = .next t) ∧
      t.restart = some { r with lockTaken := true } ∧
      UnchangedBut { engines := allPorts, locks := allLocks, groups := allGroups, restart := true } s t

/-- The third stage, once the four blocks have taken the second, stores OK for the requester and ends the RESTART; a port that waited
for its own teardown releases SCL with RESTARTED in its buffer; a held frame that needs a session is answered NO_SESSION, because
every session is CLOSED, and nothing is renewed; a port without a held frame is left as it is, and so is every session but that of
a held OPEN, with no teardown left (R160, R158, R105). The memory of a held frame's engine is empty since the first stage. -/
def Obligations.RestartThirdStageReleasesTheEngines : Prop :=
  ∀ (s : State) (r : Restart) (order : List Port), s.restart = some r → r.sessionTaken = true → r.lockTaken = true →
    r.messageTaken = true → r.noticeTaken = true → s.RestartSound → (∀ p, (s.engine p).stageDeferred = false) →
    (∀ p cmd, (s.engine p).wait = .heldFrame cmd → (s.engine p).memory = none) →
    ∃ t, exec (.restartThirdStage order) s = .next t ∧ t.restart = none ∧
      t.engine r.requester =
        { s.engine r.requester with
          state := .ignoring, wait := .nothing, busTimer := some 35
          resp := { status := .ok, echo := (s.engine r.requester).execSeq, data := [] } } ∧
      (∀ p, p ≠ r.requester → (s.engine p).state = .executing → (s.engine p).wait = .restartEnd →
        t.engine p = { s.engine p with state := .ignoring, wait := .nothing, busTimer := some 35 }) ∧
      (∀ p cmd, (s.engine p).state = .executing → (s.engine p).wait = .heldFrame cmd →
        cmd.passesSession .closed = false →
        t.engine p =
          { s.engine p with
            state := .ignoring, wait := .nothing, busTimer := some 35
            memory := some ((s.engine p).execSeq, cmd.code)
            resp := { status := .noSession, echo := (s.engine p).execSeq, data := [] } }) ∧
      (∀ p, p ≠ r.requester → (s.engine p).state ≠ .executing → t.engine p = s.engine p) ∧
      (∀ p, (∀ lease prio threshold flags, (s.engine p).wait ≠ .heldFrame (.openSession lease prio threshold flags)) →
        t.session p = { s.session p with teardown := none }) ∧
      UnchangedBut { engines := allPorts, sessions := allPorts, sessionPosts := true, restart := true } s t

/-- The held frames that need no session are executed at the third stage, against the state the RESTART has left, and renew no lease
(R158): CLOSE answers OK, STATUS, QUERY and QUERY_ROUTE report, an argument out of range is answered RANGE, and OPEN opens a session.
An OPEN posts PEER_OPENED to the ports whose held OPEN was executed before it, in the order in which the frames are released
(R87, R88; the order is an operand, log 17). -/
def Obligations.HeldFramesAreExecutedAtTheThirdStage : Prop :=
  ∀ (s : State) (r : Restart) (order : List Port), s.restart = some r → r.sessionTaken = true → r.lockTaken = true →
    r.messageTaken = true → r.noticeTaken = true → s.RestartSound → (∀ p, (s.engine p).stageDeferred = false) →
    (∀ p cmd, (s.engine p).wait = .heldFrame cmd → (s.engine p).memory = none) →
    ∃ t new, exec (.restartThirdStage order) s = .next t ∧ t.sessionPosts = s.sessionPosts ++ new ∧
      (∀ p, (s.engine p).state = .executing →
        let x := { s.session p with teardown := none }
        let executed := fun (cmd : HostCommand) (st : Status) (data : List Byte) =>
          { s.engine p with
            state := .ignoring, wait := .nothing, busTimer := some 35
            memory := some ((s.engine p).execSeq, cmd.code)
            resp := { status := st, echo := (s.engine p).execSeq, data := data } }
        ((s.engine p).wait = .heldFrame .close → t.engine p = executed .close .ok []) ∧
        ((s.engine p).wait = .heldFrame .status →
          ∃ holder : Byte,
            ((∀ q, s.hasAuthority q = false) → holder = 0xFF) ∧
            (∀ q, (s.lock 0).holders.map Holder.port = [q] → s.hasAuthority q = true → holder = natByte q.val) ∧
            t.engine p =
              { executed .status .ok ([0, x.endReason.code, x.epoch, natByte x.prio.val] ++ wordBytes x.lease ++
                  [natByte (s.noticeQueue p).records.length, natByte (s.inbound p).queue.length,
                   natByte (allCells.countP fun c => (s.cell c).isNone), holder,
                   boolByte (s.noticeQueue p).lost + 2 * boolByte (s.engine p).linkError,
                   (s.engine p).strap.setWidth 8]) with linkError := false }) ∧
        (∀ l : LockId, (s.engine p).wait = .heldFrame (.query (argByte l)) →
          t.engine p = executed (.query (argByte l)) .ok (s.lock l).queryData) ∧
        (∀ g : GroupId, (s.engine p).wait = .heldFrame (.queryRoute (argByte g)) →
          t.engine p = executed (.queryRoute (argByte g)) .ok (s.group g).queryData) ∧
        (∀ cmd, (s.engine p).wait = .heldFrame cmd → cmd.passesSession .closed = true → cmd.inRange p = false →
          t.engine p = executed cmd .range [] ∧ t.session p = x) ∧
        (∀ (lease : Word16) (prio : Prio) (threshold : Byte) (enable : Bool),
          100 ≤ lease.toNat → lease.toNat ≤ 60000 → threshold.toNat ≤ 32 →
          (s.engine p).wait = .heldFrame (.openSession lease (argByte prio) threshold (boolByte enable)) →
          let y := { x with
            state := .opened, epoch := if x.epoch = 255 then 1 else x.epoch + 1, leasePeriod := lease, lease := lease
            prio := if prio ≤ x.cap then prio else x.cap, threshold := threshold, noticeAttn := enable, awaiter := none
            teardown := none }
          t.session p = y ∧
            t.engine p = executed (.openSession lease (argByte prio) threshold (boolByte enable)) .ok
              [y.epoch, natByte y.prio.val, x.endReason.code])) ∧
      (∀ p q, (t.session p).state = .opened → (t.session q).state = .opened →
        (order ++ allPorts).idxOf q < (order ++ allPorts).idxOf p →
        new.count { port := q, notice := .peerOpened p (t.session p).epoch, cause := none } = 1) ∧
      (∀ y ∈ new, ∃ p, (t.session p).state = .opened ∧ (t.session y.port).state = .opened ∧
        (order ++ allPorts).idxOf y.port < (order ++ allPorts).idxOf p ∧
        y = { port := y.port, notice := .peerOpened p (t.session p).epoch, cause := none })

/-! ### The two-wire link -/

/-- A START and a STOP at an engine, state by state; neither is seen while the engine holds SCL; a frame cut short is discarded with
the link-error flag set (R183). A START loads the bus-timeout timer, at the fall of SCL that follows it (log 14). -/
def Obligations.BusConditionsMoveTheEngine : Prop :=
  ∀ (s : State) (p : Port), (s.engine p).Sound →
    let e := s.engine p
    let cleared := { e with addressed := false, frame := [], expected := none, snapshot := none }
    ((e.state = .executing ∨ e.state = .stretched) →
      ∀ c, exec (.busCondition p c) s = .next s) ∧
    (e.state = .idle → exec (.busCondition p .stop) s = .next s) ∧
    (e.state ≠ .executing → e.state ≠ .stretched →
      exec (.busCondition p .start) s = .next (s.setEngine p
        { cleared with
          state := .receiving, linkError := e.linkError || decide (e.frame ≠ []), busTimer := some 35 })) ∧
    (e.state ≠ .executing → e.state ≠ .stretched → e.state ≠ .idle →
      exec (.busCondition p .stop) s = .next (s.setEngine p
        { cleared with
          state := .idle, linkError := e.linkError || decide (e.frame ≠ []), busTimer := none }))

/-- The address byte: the write address, twice 0x3C plus the strap value, opens a frame with the check register run over it; the read
address, one more, takes the snapshot of the response buffer; every other byte is not acknowledged, and sets no flag
(R181, R184, R189). A byte at an engine in IDLE or IGNORING is not acknowledged and has no effect (R186, R191). -/
def Obligations.AddressByteOpensAWriteOrARead : Prop :=
  ∀ (s : State) (p : Port) (b : Byte), (s.engine p).Sound →
    let e := s.engine p
    let address := 2 * (0x3C + e.strap.toNat)
    (e.state = .receiving → e.addressed = false →
      (b.toNat = address → exec (.addressByte p b) s = .next (s.setEngine p
        { e with addressed := true, check := crc8 [b], acked := true, busTimer := some 35 })) ∧
      (b.toNat = address + 1 → exec (.addressByte p b) s = .next (s.setEngine p
        { e with state := .sending, snapshot := some (e.resp, 0), sent := [], acked := true, busTimer := some 35 })) ∧
      (b.toNat ≠ address → b.toNat ≠ address + 1 → exec (.addressByte p b) s = .next (s.setEngine p
        { e with state := .ignoring, acked := false, busTimer := some 35 }))) ∧
    (e.state = .idle → exec (.addressByte p b) s = .next (s.setEngine p { e with acked := false })) ∧
    (e.state = .ignoring →
      exec (.addressByte p b) s = .next (s.setEngine p { e with acked := false, busTimer := some 35 }))

/-- The frame of every command, byte by byte after START and write address, is acknowledged up to its check byte: the engine then
expects exactly one byte more, and its check register is the CRC-8 of the address byte and the frame (R162, R163, R184). -/
def Obligations.EveryFrameIsReceivedUpToItsCheckByte : Prop :=
  ∀ (e : Engine) (seq : Byte) (cmd : HostCommand), e.Sound → e.state = .idle → cmd.lenAccepted = true →
    let t := (e.takeStart.takeAddress (writeAddress e.strap)).takeBytes (cmd.frameBytes seq)
    t.state = .receiving ∧ t.frame = cmd.frameBytes seq ∧ t.expected = some ((cmd.frameBytes seq).length + 1) ∧
      t.check = crc8 (writeAddress e.strap :: cmd.frameBytes seq) ∧ t.linkError = e.linkError

/-- The link refuses a code that is not one of the twenty-three, a SEND whose len is above 16 and a wrong check byte: the frame is
discarded, the link-error flag set and the engine in IGNORING, whatever more is written; no lease, no memory and no response is
touched. This holds from every state in which a START can be made, and also when the host has written the first part of the frame
before, in the write that is open (R184, R185, R192).
A host that writes on in IGNORING, as after a complete frame, or in IDLE, as after a bus timeout, without a new START finds every
byte answered NACK, sets no flag and changes nothing (R186, R191). -/
def Obligations.LinkRefusesBadFrames : Prop :=
  ∀ (s : State) (p : Port) (seq : Byte), (s.engine p).Sound →
    let e := s.engine p
    let refused := fun (bytes : List Byte) (good : Nat) => ∃ t, exec (.linkRefusal p (.opened bytes)) s = .next t ∧
      (t.engine p).state = .ignoring ∧ (t.engine p).linkError = true ∧ (t.engine p).frame = [] ∧
      (t.engine p).expected = none ∧ (t.engine p).acked = false ∧ (t.engine p).memory = e.memory ∧
      (t.engine p).resp = e.resp ∧ UnchangedBut { engines := [p] } s t ∧
      (∀ first second, bytes = first ++ second → first.length ≤ good →
        ∃ u, exec (.linkRefusal p (.opened first)) s = .next u ∧ exec (.linkRefusal p (.opened second)) u = .next t)
    (e.state ≠ .executing → e.state ≠ .stretched → e.addressed = false →
      (∀ code rest,
        code ∉ ([0x01, 0x02, 0x03, 0x10, 0x11, 0x12, 0x13, 0x14, 0x15, 0x20, 0x21, 0x22, 0x23, 0x28, 0x30, 0x31, 0x32, 0x33,
          0x34, 0x35, 0x36, 0x37, 0x38] : List Byte) →
        refused (seq :: code :: rest) 1) ∧
      (∀ dest tag flags len rest, 16 < len.toNat → refused (seq :: 0x20 :: dest :: tag :: flags :: len :: rest) 5) ∧
      (∀ (cmd : HostCommand) b rest, cmd.lenAccepted = true →
        b ≠ crc8 (writeAddress e.strap :: cmd.frameBytes seq) →
        refused (cmd.frameBytes seq ++ b :: rest) (cmd.frameBytes seq).length)) ∧
    (∀ b rest,
      (e.state = .idle →
        exec (.linkRefusal p (.resumed (b :: rest))) s = .next (s.setEngine p { e with acked := false })) ∧
      (e.state = .ignoring →
        exec (.linkRefusal p (.resumed (b :: rest))) s = .next (s.setEngine p
          { e with acked := false, busTimer := some 35 })))

/-- A read sends the record from its STATUS byte, then 0xFF for each further byte, from the snapshot taken at its start, and ends
at a NACK; the response buffer and everything else stay, but that the START of a new read cuts off a frame half written (R189, R164,
R171, R183). A host that clocks on in IDLE or IGNORING without a new START reads 0xFF (R191).
The check byte of a record: a host that runs the check register over its read address byte and the whole record, CHECK included,
finds 0 (R163, R164). -/
def Obligations.ReadSendsARecordThatChecks : Prop :=
  (∀ (s : State) (p : Port) (n : Nat) (nack : Bool), 1 ≤ n → (s.engine p).Sound →
     let e := s.engine p
     (e.state = .idle ∨ e.state = .ignoring ∨ e.state = .receiving →
       exec (.readTransaction p (.opened n) nack) s = .next (s.setEngine p
         { e with
           state := if nack = true then .ignoring else .sending
           addressed := false, frame := [], expected := none
           linkError := e.linkError || decide (e.frame ≠ [])
           snapshot := if nack = true then none else some (e.resp, n)
           sent := (e.resp.bytes e.strap ++ List.replicate n 0xFF).take n
           acked := true, busTimer := some 35 })) ∧
     (∀ r i count, e.snapshot = some (r, i) → count = .opened n ∨ count = .resumed n →
       exec (.readTransaction p count nack) s = .next (s.setEngine p
         { e with
           state := if nack = true then .ignoring else .sending
           snapshot := if nack = true then none else some (r, i + n)
           sent := e.sent ++ ((r.bytes e.strap ++ List.replicate (i + n) 0xFF).drop i).take n
           busTimer := some 35 })) ∧
     (e.state = .idle → exec (.readTransaction p (.resumed n) nack) s = .next (s.setEngine p
       { e with sent := e.sent ++ List.replicate n 0xFF })) ∧
     (e.state = .ignoring → exec (.readTransaction p (.resumed n) nack) s = .next (s.setEngine p
       { e with sent := e.sent ++ List.replicate n 0xFF, busTimer := some 35 }))) ∧
  (∀ (strap : BitVec 2) (r : Record), crc8 (readAddress strap :: r.bytes strap) = 0)

/-- The bus timeout of an engine whose bus-timeout timer runs abandons the transaction: from RECEIVING and SENDING with the link-error
flag set, from IGNORING without; memory and response stay, and nothing else changes (R191, R192). A stopped timer does not expire,
so nothing changes (R191; log 3). That the command acts with any time left on a running timer is the model's choice (log 12). -/
def Obligations.BusTimeoutAbandonsTheTransaction : Prop :=
  ∀ (s : State) (p : Port), (s.engine p).Sound →
    let e := s.engine p
    let idle := { e with state := .idle, addressed := false, frame := [], expected := none, snapshot := none
                         busTimer := none }
    (e.busTimer ≠ none → e.state = .receiving ∨ e.state = .sending →
      exec (.busTimeout p) s = .next (s.setEngine p { idle with linkError := true })) ∧
    (e.busTimer ≠ none → e.state = .ignoring → exec (.busTimeout p) s = .next (s.setEngine p idle)) ∧
    (e.busTimer = none ∨ e.state = .idle ∨ e.state = .executing ∨ e.state = .stretched →
      exec (.busTimeout p) s = .next s)

/-! ### Timers at the locks, and the ends of a stretch -/

/-- The hold limit of a holder entry expires: a REVOKED post with the entry's generation and reason HOLD_LIMIT, and the release path
for the entry; an entry without hold remaining is not removed by time (R19). The REVOKED post goes first (log 23).
The deadline of a waiter entry expires: the entry is removed; a blocking one ends its stretch with EXPIRED, or ABORTED when the
session is not OPEN with the entry's epoch, another is told by WAIT_EXPIRED under the same guard; then the grant pass runs
(R41, R44, R47).
THE MODEL'S CHOICE: both commands act with any time left on a running timer (log 12), and the REVOKED or WAIT_EXPIRED post goes
before those of the grant pass (log 23). -/
def Obligations.LockTimersExpire : Prop :=
  (∀ (s : State) (l : LockId) (p : Port),
     (∀ h, (s.lock l).holderOf p = some h → h.hold.isSome = true →
       exec (.holdLimitExpiry l p) s = .next (({ s with
         lockPosts := s.lockPosts ++ [{ port := p, notice := .revoked l h.gen .holdLimit, cause := none }] } :
         State).releasePath l [p] none)) ∧
     (∀ h, (s.lock l).holderOf p = some h → h.hold = none → exec (.holdLimitExpiry l p) s = .next s) ∧
     ((s.lock l).holderOf p = none → exec (.holdLimitExpiry l p) s = .next s)) ∧
  (∀ (s : State) (l : LockId) (w : Waiter) (d : Word16), w ∈ (s.lock l).queue → w.deadline = some d →
     ((s.lock l).queue.map Waiter.port).Nodup →
     let u := s.setLock l { s.lock l with queue := (s.lock l).queue.filter fun o => decide (o.port ≠ w.port) }
     let guarded := (s.session w.port).state = .opened ∧ (s.session w.port).epoch = w.epoch
     (w.blocking = true → (s.engine w.port).handed = none →
       exec (.deadlineExpiry l w.port) s = .next ((u.setEngine w.port
         { s.engine w.port with handed := some (if guarded then .expired else .aborted) }).grantPass l none)) ∧
     (w.blocking = false → guarded →
       exec (.deadlineExpiry l w.port) s = .next (({ u with
         lockPosts := s.lockPosts ++ [{ port := w.port, notice := .waitExpired l, cause := none }] } :
         State).grantPass l none)) ∧
     (w.blocking = false → ¬guarded → exec (.deadlineExpiry l w.port) s = .next (u.grantPass l none)))

/-- The stretch limit expires: the engine stops its timer, stays STRETCHED and sends a limit claim for the lock of the frame. The
claim finds the blocking entry, in the queue or as the target, and clears its flag and hands PENDING, under the session guard; or it
finds it gone and changes nothing (R42, R44, R188).
A STRETCHED engine stores the ending handed to it as the record of its frame, with the kept SEQ as echo, stops the stretch timer,
releases SCL and enters IGNORING (R188, R40, R41, R43, R44); after the first stage of a RESTART it stores ABORTED (R158).
THE MODEL'S CHOICE: it stores ABORTED then also for an ending that was handed before that stage (log 19), and a limit claim still
in flight when the ending is stored is dropped (log 20). The stretch limit expires with any time left on its running timer
(log 12). -/
def Obligations.StretchEndsByLimitOrEnding : Prop :=
  (∀ (s : State) (p : Port), (s.engine p).state = .stretched → (s.engine p).stretchTimer.isSome = true →
    exec (.stretchLimitExpiry p) s = .next (s.setEngine p
      { s.engine p with stretchTimer := none, limitClaim := (s.engine p).stretchLock })) ∧
  (∀ (s : State) (p : Port) (l : LockId), (s.engine p).limitClaim = some l → (s.lock l).Sound l →
    let handing := fun w : Waiter => { s.engine p with
      limitClaim := none
      handed := (s.engine p).handed <|> some
        (if (s.session p).state = .opened ∧ (s.session p).epoch = w.epoch then .pending else .aborted) }
    (∀ w ∈ (s.lock l).queue, w.port = p → w.blocking = true →
      exec (.limitClaim p) s = .next ((s.setEngine p (handing w)).setLock l
        { s.lock l with queue := (s.lock l).queue.map fun o => if o.port = p then { w with blocking := false } else o })) ∧
    (∀ w, (s.lock l).target = some w → w.port = p → w.blocking = true →
      exec (.limitClaim p) s = .next ((s.setEngine p (handing w)).setLock l
        { s.lock l with target := some { w with blocking := false } })) ∧
    ((s.lock l).blocks p = false →
      exec (.limitClaim p) s = .next (s.setEngine p { s.engine p with limitClaim := none }))) ∧
  (∀ (s : State) (p : Port) (ending : Ending), (s.engine p).state = .stretched → (s.engine p).handed = some ending →
     let record : Status × List Byte :=
       if (s.engine p).abortEndings = true then (.aborted, [])
       else match ending with
         | .granted m gen => (.granted, m.code :: wordBytes gen)
         | .expired => (.expired, [])
         | .pending => (.pending, [])
         | .routeFault => (.routeFault, [])
         | .aborted => (.aborted, [])
     exec (.stretchEnding p) s = .next (s.setEngine p
       { s.engine p with
         state := .ignoring, resp := { status := record.1, echo := (s.engine p).execSeq, data := record.2 }
         stretchTimer := none, stretchLock := none, handed := none, limitClaim := none, abortEndings := false
         busTimer := some 35 }))

/-! ### The route block -/

/-- The oldest order in flight is taken at the group. A break order disables a route that is made or being made and starts the full
guard time, the select value kept; in BREAKING it is absorbed and in FAULT and UNBOUND set aside. A make order at a BROKEN group
sets the select value and starts the settle time of 10 µs; elsewhere it is set aside (R64, R65, R68). -/
def Obligations.OrdersAreTakenAtTheGroup : Prop :=
  ∀ (s : State) (g : GroupId) (rest : List Order),
    let x := { s.group g with orders := rest }
    ((s.group g).orders = .breakRoute :: rest →
      ((s.group g).state = .made ∨ (s.group g).state = .making →
        exec (.breakOrder g) s = .next (s.setGroup g
          { x with state := .breaking, enable := false, timer := .guardTime (s.group g).guardUnits.toNat })) ∧
      ((s.group g).state = .breaking ∨ (s.group g).state = .fault ∨ (s.group g).state = .unbound →
        exec (.breakOrder g) s = .next (s.setGroup g x))) ∧
    (∀ q, (s.group g).orders = .makeRoute q :: rest →
      ((s.group g).state = .broken →
        exec (.makeOrder g) s = .next (s.setGroup g { x with state := .making, select := q, timer := .settleTime 1 })) ∧
      ((s.group g).state ≠ .broken → exec (.makeOrder g) s = .next (s.setGroup g x)))

/-- The guard time ends: in BREAKING the group enters BROKEN and sends route clear, the select value and EN kept (R66); in
FAULT while clearing, clearing becomes no as well (R79).
The settle time ends: EN is asserted; with confirm time 0 or filtered SENSE high the group is MADE at once and sends route made
with the selected port, else the confirm timer starts (R69). The confirm time ends: EN is deasserted, the select value kept, the
group is in FAULT and sends route fault (R72). THE MODEL'S CHOICE: each command acts with any time left on its running timer
(log 12). -/
def Obligations.GroupTimersEnd : Prop :=
  (∀ (s : State) (g : GroupId) (n : Nat), (s.group g).timer = .guardTime n →
     let broken := { s.group g with
       state := .broken, timer := .stopped, clearing := false, reports := (s.group g).reports ++ [.clear] }
     ((s.group g).state = .breaking → exec (.guardExpiry g) s = .next (s.setGroup g broken)) ∧
     ((s.group g).state = .fault → (s.group g).clearing = true →
       exec (.faultClearGuardExpiry g) s = .next (s.setGroup g broken))) ∧
  (∀ (s : State) (g : GroupId) (n : Nat), (s.group g).state = .making →
     ((s.group g).timer = .settleTime n → ((s.group g).confirmMs = 0 ∨ (s.group g).senseFiltered = true) →
       exec (.settleExpiry g) s = .next (s.setGroup g
         { s.group g with
           state := .made, enable := true, timer := .stopped
           reports := (s.group g).reports ++ [.made (s.group g).select] })) ∧
     ((s.group g).timer = .settleTime n → (s.group g).confirmMs ≠ 0 → (s.group g).senseFiltered = false →
       exec (.settleExpiry g) s = .next (s.setGroup g
         { s.group g with enable := true, timer := .confirmTime (s.group g).confirmMs.toNat })) ∧
     ((s.group g).timer = .confirmTime n →
       exec (.confirmExpiry g) s = .next (s.setGroup g
         { s.group g with
           state := .fault, enable := false, timer := .stopped, reports := (s.group g).reports ++ [.fault] })))

/-- SENSE: a rise raises the filtered level at once and makes the route of a group in MAKING whose EN is asserted; a fall starts the
filter of 1 ms; when that has run, the filtered level falls, and a group in MADE whose confirm time is above 0 faults
(R60, R70, R73). THE MODEL'S CHOICE: SENSE_RISE and SENSE_FALL are changes of the input level, with the filter behind them (log 29),
SENSE_LOSS acts with any time left on the filter (log 12), and the 1 ms of the filter is 100 units of 10 µs (log 35). -/
def Obligations.SenseMakesAndFaultsRoutes : Prop :=
  ∀ (s : State) (g : GroupId), (s.group g).Sound →
    let x := s.group g
    let high := { x with senseInput := true, senseFiltered := true, senseTimer := none }
    let low := { x with senseFiltered := false, senseTimer := none }
    (x.state = .making → x.enable = true → x.senseFiltered = false →
      exec (.senseRise g) s = .next (s.setGroup g
        { high with state := .made, timer := .stopped, reports := x.reports ++ [.made x.select] })) ∧
    (x.state ≠ .making ∨ x.enable = false ∨ x.senseFiltered = true →
      exec (.senseRise g) s = .next (s.setGroup g high)) ∧
    (x.senseInput = true → exec (.senseFall g) s = .next (s.setGroup g
      { x with senseInput := false, senseTimer := some 100 })) ∧
    (x.senseInput = false → exec (.senseFall g) s = .next s) ∧
    (x.senseTimer ≠ none → x.state = .made → x.confirmMs ≠ 0 →
      exec (.senseLoss g) s = .next (s.setGroup g
        { low with state := .fault, enable := false, timer := .stopped, reports := x.reports ++ [.fault] })) ∧
    (x.senseTimer ≠ none → x.state ≠ .made ∨ x.confirmMs = 0 →
      exec (.senseLoss g) s = .next (s.setGroup g low))

/-- A route clear makes a VACATING or FAULTED lock FREE and runs the grant pass (R67, R79). A route made grants a HANDOVER lock to its
target EXCLUSIVE under a new generation, told by response or notice; at a VACATING lock it is set aside (R71).
A route fault makes the lock FAULTED. A handover ends with reason ROUTE_FAULT, by the ending of the stretch or by a WAIT_FAILED
notice under the guard; an EXCLUSIVE holder is revoked with reason ROUTE_FAULT, without the release path; a VACATING lock is told to
no one. The generation and the queue stay (R74, R43, R44). -/
def Obligations.ReportsAreTakenAtTheLock : Prop :=
  (∀ (s : State) (g : GroupId) (l : LockId) (rest : List Report), (s.group g).lock = some l → (s.lock l).Sound l →
     let u := s.setGroup g { s.group g with reports := rest }
     ((s.group g).reports = .clear :: rest →
       ((s.lock l).state = .vacating ∨ (s.lock l).state = .faulted →
         exec (.routeClear g) s = .next ((u.setLock l
           { s.lock l with state := .free, vacatingFrom := none }).grantPass l none)) ∧
       ((s.lock l).state ≠ .vacating → (s.lock l).state ≠ .faulted → exec (.routeClear g) s = .next u)) ∧
     (∀ q, (s.group g).reports = .made q :: rest →
       (∀ w, (s.lock l).target = some w →
         exec (.routeMade g) s = .next ((u.setLock l
           { s.lock l with
             state := .exclusive, target := none, gen := nextGen (s.lock l).gen
             holders := [{ port := w.port, mode := .exclusive, gen := nextGen (s.lock l).gen,
                           hold := if (s.lock l).holdLimit = 0 then none else some (s.lock l).holdLimit }] }).deliverGrant
           l w .exclusive (nextGen (s.lock l).gen) none)) ∧
       ((s.lock l).state ≠ .handover → exec (.routeMade g) s = .next u))) ∧
  (∀ (s : State) (g : GroupId) (l : LockId) (rest : List Report), (s.group g).reports = .fault :: rest →
     (s.group g).lock = some l → (s.lock l).Sound l →
     let u := s.setGroup g { s.group g with reports := rest }
     let faulted := u.setLock l { s.lock l with state := .faulted, holders := [], vacatingFrom := none, target := none }
     (∀ w, (s.lock l).target = some w →
       let guarded := (s.session w.port).state = .opened ∧ (s.session w.port).epoch = w.epoch
       (w.blocking = true → (s.engine w.port).handed = none →
         exec (.routeFault g) s = .next (faulted.setEngine w.port
           { s.engine w.port with handed := some (if guarded then .routeFault else .aborted) })) ∧
       (w.blocking = false → guarded →
         exec (.routeFault g) s = .next { faulted with
           lockPosts := s.lockPosts ++ [{ port := w.port, notice := .waitFailed l, cause := none }] }) ∧
       (w.blocking = false → ¬guarded → exec (.routeFault g) s = .next faulted)) ∧
     (∀ h, (s.lock l).state = .exclusive → (s.lock l).holders = [h] →
       exec (.routeFault g) s = .next { faulted with
         lockPosts := s.lockPosts ++ [{ port := h.port, notice := .revoked l h.gen .routeFault, cause := none }] }) ∧
     ((s.lock l).state = .vacating → exec (.routeFault g) s = .next faulted))

/-! ### Invariants that every step keeps -/

/-- Every step keeps every lock record sound: the holder entries fit the state, a FREE lock has no waiters, a port stands in a queue
at most once, an UPGRADE entry is at the head and names a shared holder, and L0 and bound locks are never SHARED (R2, R3, R6, R7,
R27). A group and its lock name each other beforehand. -/
def Obligations.LockRecordsStaySound : Prop :=
  ∀ s t : State, s.LocksSound → s.BindingsAgree → step s = .next t → t.LocksSound

/-- In every step but RESET each lock grants at most once: its generation stays, and then no holder entry carries a generation it did
not carry, or it becomes the next one, and the new holder entries carry that (R4). -/
def Obligations.GenerationStepsOnlyAtGrants : Prop :=
  ∀ s t : State, s.LocksSound → s.RestartSound → s.resetNext = false → step s = .next t →
    ∀ l, (s.lock l).GrantsAtMostOnce (t.lock l)

/-- Every step keeps the outputs of every group safe: EN is asserted only in MAKING after the settle time and in MADE, the one timer
fits the state, and, but for RESET, the select value changes only while EN is deasserted before and after (R59, R62). It also keeps
group and lock naming each other (R76, R77). -/
def Obligations.RouteOutputsStaySafe : Prop :=
  ∀ s t : State, s.GroupsSound → step s = .next t →
    t.GroupsSound ∧ (s.BindingsAgree → t.BindingsAgree) ∧
      (s.resetNext = false → ∀ g, (t.group g).select ≠ (s.group g).select →
        (s.group g).enable = false ∧ (t.group g).enable = false)

/-- Every step keeps the pool sound: a cell is free and named by no queue, or in use with as many references, 1 to 3, as queues name
it; no inbound queue holds more than 32 entries or one cell twice, no notice queue more than 16 records (R107, R108). -/
def Obligations.PoolAndQueuesStaySound : Prop :=
  ∀ s t : State, s.PoolSound → step s = .next t → t.PoolSound

/-- Every step keeps every session record sound: the fields of a CLOSED session are clear, an OPEN one has a lease in range and an
epoch that is not 0, the priority is never above the cap (R83, R85, R96, R100).
Every step keeps the guarded posts with their session: a receipt or another notice that passed a guard is never in flight to a
CLOSED port, so no later session of the port gets it (R126, R138; log 33). -/
def Obligations.SessionRecordsStaySound : Prop :=
  (∀ s t : State, s.SessionsSound → step s = .next t → t.SessionsSound) ∧
  (∀ s t : State, s.GuardedPostsFit → step s = .next t → t.GuardedPostsFit)

/-- Every step keeps engines and blocking entries in step: a port has a blocking entry at most at one lock, and only while its engine
is STRETCHED for that lock and no ending has been handed to it; a STRETCHED engine has such an entry or an ending, so it never
waits for nothing (R39, R182, R188). -/
def Obligations.StretchedEnginesHaveABlockingEntry : Prop :=
  ∀ s t : State, s.LocksSound → s.EnginesSound → s.StretchesSound → step s = .next t →
    t.EnginesSound ∧ t.StretchesSound

/-- Every step keeps a RESTART sound: its requester waits in EXECUTING for the stages, and from the session block's arrival to the end
every session is CLOSED (R158, R159). -/
def Obligations.RestartKeepsEverySessionClosed : Prop :=
  ∀ s t : State, s.RestartSound → step s = .next t → t.RestartSound

/-- A session cannot lapse while its own port is STRETCHED (R92): the stretch began with a renewal, a stretch limit is at most 50 ms and
a lease period at least 100 ms, and time passes for both alike. So at least 50 ms of lease remain, and a lease expiry has no effect.
That time passes only when nothing else waits is the model's choice (log 2). -/
def Obligations.LeasesOutlastStretches : Prop :=
  (∀ s t : State, s.EnginesSound → s.StretchesSound → s.PoolSound → s.SessionsSound → s.RestartSound →
    s.LeasesOutlastStretches → step s = .next t → t.LeasesOutlastStretches) ∧
  (∀ (s : State) (p : Port), s.LeasesOutlastStretches → (s.engine p).state = .stretched →
    exec (.leaseExpiry p) s = .next s)

/-- The state after RESET meets every invariant. -/
def Obligations.ResetStateMeetsEveryInvariant : Prop :=
  State.reset.LocksSound ∧ State.reset.EnginesSound ∧ State.reset.StretchesSound ∧ State.reset.GroupsSound ∧
    State.reset.BindingsAgree ∧ State.reset.PoolSound ∧ State.reset.SessionsSound ∧ State.reset.RestartSound ∧
    State.reset.LeasesOutlastStretches ∧ State.reset.GuardedPostsFit
end

