-- ==== Sys2Proof/Laws/State.lean ====
section
/-! SUPPORT. What each read of a record answers after each write of one. -/

namespace Sys2Proof.Machine

variable (s : State)

/-! ### `setEngine` -/

@[simp] theorem State.engine_setEngine (p q : Port) (x : Engine) : (s.setEngine p x).engine q = if p = q then x else s.engine q := by
  simp [State.engine, State.setEngine, Vector.getElem_set, Fin.ext_iff]
@[simp] theorem State.setEngine_self (p : Port) : s.setEngine p (s.engine p) = s := by
  simp [State.engine, State.setEngine]
@[simp] theorem State.setEngine_setEngine (p : Port) (x y : Engine) : (s.setEngine p x).setEngine p y = s.setEngine p y := by
  simp [State.setEngine]
@[simp] theorem State.session_setEngine (p : Port) (x : Engine) (q : Port) : (s.setEngine p x).session q = s.session q := rfl
@[simp] theorem State.lock_setEngine (p : Port) (x : Engine) (l : LockId) : (s.setEngine p x).lock l = s.lock l := rfl
@[simp] theorem State.group_setEngine (p : Port) (x : Engine) (g : GroupId) : (s.setEngine p x).group g = s.group g := rfl
@[simp] theorem State.cell_setEngine (p : Port) (x : Engine) (c : CellId) : (s.setEngine p x).cell c = s.cell c := rfl
@[simp] theorem State.inbound_setEngine (p : Port) (x : Engine) (q : Port) : (s.setEngine p x).inbound q = s.inbound q := rfl
@[simp] theorem State.noticeQueue_setEngine (p : Port) (x : Engine) (q : Port) : (s.setEngine p x).noticeQueue q = s.noticeQueue q := rfl
@[simp] theorem State.limit_setEngine (p : Port) (x : Engine) (q : Port) : (s.setEngine p x).limit q = s.limit q := rfl
@[simp] theorem State.lockPosts_setEngine (p : Port) (x : Engine) : (s.setEngine p x).lockPosts = s.lockPosts := rfl
@[simp] theorem State.sessionPosts_setEngine (p : Port) (x : Engine) : (s.setEngine p x).sessionPosts = s.sessionPosts := rfl
@[simp] theorem State.messagePosts_setEngine (p : Port) (x : Engine) : (s.setEngine p x).messagePosts = s.messagePosts := rfl
@[simp] theorem State.restart_setEngine (p : Port) (x : Engine) : (s.setEngine p x).restart = s.restart := rfl
@[simp] theorem State.msPhase_setEngine (p : Port) (x : Engine) : (s.setEngine p x).msPhase = s.msPhase := rfl
@[simp] theorem State.sclSample_setEngine (p : Port) (x : Engine) : (s.setEngine p x).sclSample = s.sclSample := rfl
@[simp] theorem State.pending_setEngine (p : Port) (x : Engine) : (s.setEngine p x).pending = s.pending := rfl

/-! ### `setSession` -/

@[simp] theorem State.session_setSession (p q : Port) (x : Session) : (s.setSession p x).session q = if p = q then x else s.session q := by
  simp [State.session, State.setSession, Vector.getElem_set, Fin.ext_iff]
@[simp] theorem State.setSession_self (p : Port) : s.setSession p (s.session p) = s := by
  simp [State.session, State.setSession]
@[simp] theorem State.setSession_setSession (p : Port) (x y : Session) : (s.setSession p x).setSession p y = s.setSession p y := by
  simp [State.setSession]
@[simp] theorem State.engine_setSession (p : Port) (x : Session) (q : Port) : (s.setSession p x).engine q = s.engine q := rfl
@[simp] theorem State.lock_setSession (p : Port) (x : Session) (l : LockId) : (s.setSession p x).lock l = s.lock l := rfl
@[simp] theorem State.group_setSession (p : Port) (x : Session) (g : GroupId) : (s.setSession p x).group g = s.group g := rfl
@[simp] theorem State.cell_setSession (p : Port) (x : Session) (c : CellId) : (s.setSession p x).cell c = s.cell c := rfl
@[simp] theorem State.inbound_setSession (p : Port) (x : Session) (q : Port) : (s.setSession p x).inbound q = s.inbound q := rfl
@[simp] theorem State.noticeQueue_setSession (p : Port) (x : Session) (q : Port) : (s.setSession p x).noticeQueue q = s.noticeQueue q := rfl
@[simp] theorem State.limit_setSession (p : Port) (x : Session) (q : Port) : (s.setSession p x).limit q = s.limit q := rfl
@[simp] theorem State.lockPosts_setSession (p : Port) (x : Session) : (s.setSession p x).lockPosts = s.lockPosts := rfl
@[simp] theorem State.sessionPosts_setSession (p : Port) (x : Session) : (s.setSession p x).sessionPosts = s.sessionPosts := rfl
@[simp] theorem State.messagePosts_setSession (p : Port) (x : Session) : (s.setSession p x).messagePosts = s.messagePosts := rfl
@[simp] theorem State.restart_setSession (p : Port) (x : Session) : (s.setSession p x).restart = s.restart := rfl
@[simp] theorem State.msPhase_setSession (p : Port) (x : Session) : (s.setSession p x).msPhase = s.msPhase := rfl
@[simp] theorem State.sclSample_setSession (p : Port) (x : Session) : (s.setSession p x).sclSample = s.sclSample := rfl
@[simp] theorem State.pending_setSession (p : Port) (x : Session) : (s.setSession p x).pending = s.pending := rfl

/-! ### `setLock` -/

@[simp] theorem State.lock_setLock (l q : LockId) (x : LockRec) : (s.setLock l x).lock q = if l = q then x else s.lock q := by
  simp [State.lock, State.setLock, Vector.getElem_set, Fin.ext_iff]
@[simp] theorem State.setLock_self (l : LockId) : s.setLock l (s.lock l) = s := by
  simp [State.lock, State.setLock]
@[simp] theorem State.setLock_setLock (l : LockId) (x y : LockRec) : (s.setLock l x).setLock l y = s.setLock l y := by
  simp [State.setLock]
@[simp] theorem State.engine_setLock (l : LockId) (x : LockRec) (p : Port) : (s.setLock l x).engine p = s.engine p := rfl
@[simp] theorem State.session_setLock (l : LockId) (x : LockRec) (p : Port) : (s.setLock l x).session p = s.session p := rfl
@[simp] theorem State.group_setLock (l : LockId) (x : LockRec) (g : GroupId) : (s.setLock l x).group g = s.group g := rfl
@[simp] theorem State.cell_setLock (l : LockId) (x : LockRec) (c : CellId) : (s.setLock l x).cell c = s.cell c := rfl
@[simp] theorem State.inbound_setLock (l : LockId) (x : LockRec) (p : Port) : (s.setLock l x).inbound p = s.inbound p := rfl
@[simp] theorem State.noticeQueue_setLock (l : LockId) (x : LockRec) (p : Port) : (s.setLock l x).noticeQueue p = s.noticeQueue p := rfl
@[simp] theorem State.limit_setLock (l : LockId) (x : LockRec) (p : Port) : (s.setLock l x).limit p = s.limit p := rfl
@[simp] theorem State.lockPosts_setLock (l : LockId) (x : LockRec) : (s.setLock l x).lockPosts = s.lockPosts := rfl
@[simp] theorem State.sessionPosts_setLock (l : LockId) (x : LockRec) : (s.setLock l x).sessionPosts = s.sessionPosts := rfl
@[simp] theorem State.messagePosts_setLock (l : LockId) (x : LockRec) : (s.setLock l x).messagePosts = s.messagePosts := rfl
@[simp] theorem State.restart_setLock (l : LockId) (x : LockRec) : (s.setLock l x).restart = s.restart := rfl
@[simp] theorem State.msPhase_setLock (l : LockId) (x : LockRec) : (s.setLock l x).msPhase = s.msPhase := rfl
@[simp] theorem State.sclSample_setLock (l : LockId) (x : LockRec) : (s.setLock l x).sclSample = s.sclSample := rfl
@[simp] theorem State.pending_setLock (l : LockId) (x : LockRec) : (s.setLock l x).pending = s.pending := rfl

/-! ### `setGroup` -/

@[simp] theorem State.group_setGroup (g q : GroupId) (x : Group) : (s.setGroup g x).group q = if g = q then x else s.group q := by
  simp [State.group, State.setGroup, Vector.getElem_set, Fin.ext_iff]
@[simp] theorem State.setGroup_self (g : GroupId) : s.setGroup g (s.group g) = s := by
  simp [State.group, State.setGroup]
@[simp] theorem State.setGroup_setGroup (g : GroupId) (x y : Group) : (s.setGroup g x).setGroup g y = s.setGroup g y := by
  simp [State.setGroup]
@[simp] theorem State.engine_setGroup (g : GroupId) (x : Group) (p : Port) : (s.setGroup g x).engine p = s.engine p := rfl
@[simp] theorem State.session_setGroup (g : GroupId) (x : Group) (p : Port) : (s.setGroup g x).session p = s.session p := rfl
@[simp] theorem State.lock_setGroup (g : GroupId) (x : Group) (l : LockId) : (s.setGroup g x).lock l = s.lock l := rfl
@[simp] theorem State.cell_setGroup (g : GroupId) (x : Group) (c : CellId) : (s.setGroup g x).cell c = s.cell c := rfl
@[simp] theorem State.inbound_setGroup (g : GroupId) (x : Group) (p : Port) : (s.setGroup g x).inbound p = s.inbound p := rfl
@[simp] theorem State.noticeQueue_setGroup (g : GroupId) (x : Group) (p : Port) : (s.setGroup g x).noticeQueue p = s.noticeQueue p := rfl
@[simp] theorem State.limit_setGroup (g : GroupId) (x : Group) (p : Port) : (s.setGroup g x).limit p = s.limit p := rfl
@[simp] theorem State.lockPosts_setGroup (g : GroupId) (x : Group) : (s.setGroup g x).lockPosts = s.lockPosts := rfl
@[simp] theorem State.sessionPosts_setGroup (g : GroupId) (x : Group) : (s.setGroup g x).sessionPosts = s.sessionPosts := rfl
@[simp] theorem State.messagePosts_setGroup (g : GroupId) (x : Group) : (s.setGroup g x).messagePosts = s.messagePosts := rfl
@[simp] theorem State.restart_setGroup (g : GroupId) (x : Group) : (s.setGroup g x).restart = s.restart := rfl
@[simp] theorem State.msPhase_setGroup (g : GroupId) (x : Group) : (s.setGroup g x).msPhase = s.msPhase := rfl
@[simp] theorem State.sclSample_setGroup (g : GroupId) (x : Group) : (s.setGroup g x).sclSample = s.sclSample := rfl
@[simp] theorem State.pending_setGroup (g : GroupId) (x : Group) : (s.setGroup g x).pending = s.pending := rfl

/-! ### `setCell` -/

@[simp] theorem State.cell_setCell (c q : CellId) (x : Option Cell) : (s.setCell c x).cell q = if c = q then x else s.cell q := by
  simp [State.cell, State.setCell, Vector.getElem_set, Fin.ext_iff]
@[simp] theorem State.setCell_self (c : CellId) : s.setCell c (s.cell c) = s := by
  simp [State.cell, State.setCell]
@[simp] theorem State.setCell_setCell (c : CellId) (x y : Option Cell) : (s.setCell c x).setCell c y = s.setCell c y := by
  simp [State.setCell]
@[simp] theorem State.engine_setCell (c : CellId) (x : Option Cell) (p : Port) : (s.setCell c x).engine p = s.engine p := rfl
@[simp] theorem State.session_setCell (c : CellId) (x : Option Cell) (p : Port) : (s.setCell c x).session p = s.session p := rfl
@[simp] theorem State.lock_setCell (c : CellId) (x : Option Cell) (l : LockId) : (s.setCell c x).lock l = s.lock l := rfl
@[simp] theorem State.group_setCell (c : CellId) (x : Option Cell) (g : GroupId) : (s.setCell c x).group g = s.group g := rfl
@[simp] theorem State.inbound_setCell (c : CellId) (x : Option Cell) (p : Port) : (s.setCell c x).inbound p = s.inbound p := rfl
@[simp] theorem State.noticeQueue_setCell (c : CellId) (x : Option Cell) (p : Port) : (s.setCell c x).noticeQueue p = s.noticeQueue p := rfl
@[simp] theorem State.limit_setCell (c : CellId) (x : Option Cell) (p : Port) : (s.setCell c x).limit p = s.limit p := rfl
@[simp] theorem State.lockPosts_setCell (c : CellId) (x : Option Cell) : (s.setCell c x).lockPosts = s.lockPosts := rfl
@[simp] theorem State.sessionPosts_setCell (c : CellId) (x : Option Cell) : (s.setCell c x).sessionPosts = s.sessionPosts := rfl
@[simp] theorem State.messagePosts_setCell (c : CellId) (x : Option Cell) : (s.setCell c x).messagePosts = s.messagePosts := rfl
@[simp] theorem State.restart_setCell (c : CellId) (x : Option Cell) : (s.setCell c x).restart = s.restart := rfl
@[simp] theorem State.msPhase_setCell (c : CellId) (x : Option Cell) : (s.setCell c x).msPhase = s.msPhase := rfl
@[simp] theorem State.sclSample_setCell (c : CellId) (x : Option Cell) : (s.setCell c x).sclSample = s.sclSample := rfl
@[simp] theorem State.pending_setCell (c : CellId) (x : Option Cell) : (s.setCell c x).pending = s.pending := rfl

/-! ### `setInbound` -/

@[simp] theorem State.inbound_setInbound (p q : Port) (x : Inbound) : (s.setInbound p x).inbound q = if p = q then x else s.inbound q := by
  simp [State.inbound, State.setInbound, Vector.getElem_set, Fin.ext_iff]
@[simp] theorem State.setInbound_self (p : Port) : s.setInbound p (s.inbound p) = s := by
  simp [State.inbound, State.setInbound]
@[simp] theorem State.setInbound_setInbound (p : Port) (x y : Inbound) : (s.setInbound p x).setInbound p y = s.setInbound p y := by
  simp [State.setInbound]
@[simp] theorem State.engine_setInbound (p : Port) (x : Inbound) (q : Port) : (s.setInbound p x).engine q = s.engine q := rfl
@[simp] theorem State.session_setInbound (p : Port) (x : Inbound) (q : Port) : (s.setInbound p x).session q = s.session q := rfl
@[simp] theorem State.lock_setInbound (p : Port) (x : Inbound) (l : LockId) : (s.setInbound p x).lock l = s.lock l := rfl
@[simp] theorem State.group_setInbound (p : Port) (x : Inbound) (g : GroupId) : (s.setInbound p x).group g = s.group g := rfl
@[simp] theorem State.cell_setInbound (p : Port) (x : Inbound) (c : CellId) : (s.setInbound p x).cell c = s.cell c := rfl
@[simp] theorem State.noticeQueue_setInbound (p : Port) (x : Inbound) (q : Port) : (s.setInbound p x).noticeQueue q = s.noticeQueue q := rfl
@[simp] theorem State.limit_setInbound (p : Port) (x : Inbound) (q : Port) : (s.setInbound p x).limit q = s.limit q := rfl
@[simp] theorem State.lockPosts_setInbound (p : Port) (x : Inbound) : (s.setInbound p x).lockPosts = s.lockPosts := rfl
@[simp] theorem State.sessionPosts_setInbound (p : Port) (x : Inbound) : (s.setInbound p x).sessionPosts = s.sessionPosts := rfl
@[simp] theorem State.messagePosts_setInbound (p : Port) (x : Inbound) : (s.setInbound p x).messagePosts = s.messagePosts := rfl
@[simp] theorem State.restart_setInbound (p : Port) (x : Inbound) : (s.setInbound p x).restart = s.restart := rfl
@[simp] theorem State.msPhase_setInbound (p : Port) (x : Inbound) : (s.setInbound p x).msPhase = s.msPhase := rfl
@[simp] theorem State.sclSample_setInbound (p : Port) (x : Inbound) : (s.setInbound p x).sclSample = s.sclSample := rfl
@[simp] theorem State.pending_setInbound (p : Port) (x : Inbound) : (s.setInbound p x).pending = s.pending := rfl

/-! ### `setNoticeQueue` -/

@[simp] theorem State.noticeQueue_setNoticeQueue (p q : Port) (x : NoticeQueue) : (s.setNoticeQueue p x).noticeQueue q = if p = q then x else s.noticeQueue q := by
  simp [State.noticeQueue, State.setNoticeQueue, Vector.getElem_set, Fin.ext_iff]
@[simp] theorem State.setNoticeQueue_self (p : Port) : s.setNoticeQueue p (s.noticeQueue p) = s := by
  simp [State.noticeQueue, State.setNoticeQueue]
@[simp] theorem State.setNoticeQueue_setNoticeQueue (p : Port) (x y : NoticeQueue) : (s.setNoticeQueue p x).setNoticeQueue p y = s.setNoticeQueue p y := by
  simp [State.setNoticeQueue]
@[simp] theorem State.engine_setNoticeQueue (p : Port) (x : NoticeQueue) (q : Port) : (s.setNoticeQueue p x).engine q = s.engine q := rfl
@[simp] theorem State.session_setNoticeQueue (p : Port) (x : NoticeQueue) (q : Port) : (s.setNoticeQueue p x).session q = s.session q := rfl
@[simp] theorem State.lock_setNoticeQueue (p : Port) (x : NoticeQueue) (l : LockId) : (s.setNoticeQueue p x).lock l = s.lock l := rfl
@[simp] theorem State.group_setNoticeQueue (p : Port) (x : NoticeQueue) (g : GroupId) : (s.setNoticeQueue p x).group g = s.group g := rfl
@[simp] theorem State.cell_setNoticeQueue (p : Port) (x : NoticeQueue) (c : CellId) : (s.setNoticeQueue p x).cell c = s.cell c := rfl
@[simp] theorem State.inbound_setNoticeQueue (p : Port) (x : NoticeQueue) (q : Port) : (s.setNoticeQueue p x).inbound q = s.inbound q := rfl
@[simp] theorem State.limit_setNoticeQueue (p : Port) (x : NoticeQueue) (q : Port) : (s.setNoticeQueue p x).limit q = s.limit q := rfl
@[simp] theorem State.lockPosts_setNoticeQueue (p : Port) (x : NoticeQueue) : (s.setNoticeQueue p x).lockPosts = s.lockPosts := rfl
@[simp] theorem State.sessionPosts_setNoticeQueue (p : Port) (x : NoticeQueue) : (s.setNoticeQueue p x).sessionPosts = s.sessionPosts := rfl
@[simp] theorem State.messagePosts_setNoticeQueue (p : Port) (x : NoticeQueue) : (s.setNoticeQueue p x).messagePosts = s.messagePosts := rfl
@[simp] theorem State.restart_setNoticeQueue (p : Port) (x : NoticeQueue) : (s.setNoticeQueue p x).restart = s.restart := rfl
@[simp] theorem State.msPhase_setNoticeQueue (p : Port) (x : NoticeQueue) : (s.setNoticeQueue p x).msPhase = s.msPhase := rfl
@[simp] theorem State.sclSample_setNoticeQueue (p : Port) (x : NoticeQueue) : (s.setNoticeQueue p x).sclSample = s.sclSample := rfl
@[simp] theorem State.pending_setNoticeQueue (p : Port) (x : NoticeQueue) : (s.setNoticeQueue p x).pending = s.pending := rfl

/-! ### `setLimit` -/

@[simp] theorem State.limit_setLimit (p q : Port) (x : PortLimits) : (s.setLimit p x).limit q = if p = q then x else s.limit q := by
  simp [State.limit, State.setLimit, Vector.getElem_set, Fin.ext_iff]
@[simp] theorem State.setLimit_self (p : Port) : s.setLimit p (s.limit p) = s := by
  simp [State.limit, State.setLimit]
@[simp] theorem State.setLimit_setLimit (p : Port) (x y : PortLimits) : (s.setLimit p x).setLimit p y = s.setLimit p y := by
  simp [State.setLimit]
@[simp] theorem State.engine_setLimit (p : Port) (x : PortLimits) (q : Port) : (s.setLimit p x).engine q = s.engine q := rfl
@[simp] theorem State.session_setLimit (p : Port) (x : PortLimits) (q : Port) : (s.setLimit p x).session q = s.session q := rfl
@[simp] theorem State.lock_setLimit (p : Port) (x : PortLimits) (l : LockId) : (s.setLimit p x).lock l = s.lock l := rfl
@[simp] theorem State.group_setLimit (p : Port) (x : PortLimits) (g : GroupId) : (s.setLimit p x).group g = s.group g := rfl
@[simp] theorem State.cell_setLimit (p : Port) (x : PortLimits) (c : CellId) : (s.setLimit p x).cell c = s.cell c := rfl
@[simp] theorem State.inbound_setLimit (p : Port) (x : PortLimits) (q : Port) : (s.setLimit p x).inbound q = s.inbound q := rfl
@[simp] theorem State.noticeQueue_setLimit (p : Port) (x : PortLimits) (q : Port) : (s.setLimit p x).noticeQueue q = s.noticeQueue q := rfl
@[simp] theorem State.lockPosts_setLimit (p : Port) (x : PortLimits) : (s.setLimit p x).lockPosts = s.lockPosts := rfl
@[simp] theorem State.sessionPosts_setLimit (p : Port) (x : PortLimits) : (s.setLimit p x).sessionPosts = s.sessionPosts := rfl
@[simp] theorem State.messagePosts_setLimit (p : Port) (x : PortLimits) : (s.setLimit p x).messagePosts = s.messagePosts := rfl
@[simp] theorem State.restart_setLimit (p : Port) (x : PortLimits) : (s.setLimit p x).restart = s.restart := rfl
@[simp] theorem State.msPhase_setLimit (p : Port) (x : PortLimits) : (s.setLimit p x).msPhase = s.msPhase := rfl
@[simp] theorem State.sclSample_setLimit (p : Port) (x : PortLimits) : (s.setLimit p x).sclSample = s.sclSample := rfl
@[simp] theorem State.pending_setLimit (p : Port) (x : PortLimits) : (s.setLimit p x).pending = s.pending := rfl

/-! ### Posts -/

@[simp] theorem State.engine_postFromLocks (p : Port) (n : Notice) (k : Option Port) (q : Port) : (s.postFromLocks p n k).engine q = s.engine q := rfl
@[simp] theorem State.session_postFromLocks (p : Port) (n : Notice) (k : Option Port) (q : Port) : (s.postFromLocks p n k).session q = s.session q := rfl
@[simp] theorem State.lock_postFromLocks (p : Port) (n : Notice) (k : Option Port) (l : LockId) : (s.postFromLocks p n k).lock l = s.lock l := rfl
@[simp] theorem State.group_postFromLocks (p : Port) (n : Notice) (k : Option Port) (g : GroupId) : (s.postFromLocks p n k).group g = s.group g := rfl
@[simp] theorem State.cell_postFromLocks (p : Port) (n : Notice) (k : Option Port) (c : CellId) : (s.postFromLocks p n k).cell c = s.cell c := rfl
@[simp] theorem State.inbound_postFromLocks (p : Port) (n : Notice) (k : Option Port) (q : Port) : (s.postFromLocks p n k).inbound q = s.inbound q := rfl
@[simp] theorem State.noticeQueue_postFromLocks (p : Port) (n : Notice) (k : Option Port) (q : Port) : (s.postFromLocks p n k).noticeQueue q = s.noticeQueue q := rfl
@[simp] theorem State.limit_postFromLocks (p : Port) (n : Notice) (k : Option Port) (q : Port) : (s.postFromLocks p n k).limit q = s.limit q := rfl
@[simp] theorem State.lockPosts_postFromLocks (p : Port) (n : Notice) (k : Option Port) : (s.postFromLocks p n k).lockPosts = s.lockPosts ++ [Post.mk p n k] := rfl
@[simp] theorem State.sessionPosts_postFromLocks (p : Port) (n : Notice) (k : Option Port) : (s.postFromLocks p n k).sessionPosts = s.sessionPosts := rfl
@[simp] theorem State.messagePosts_postFromLocks (p : Port) (n : Notice) (k : Option Port) : (s.postFromLocks p n k).messagePosts = s.messagePosts := rfl
@[simp] theorem State.restart_postFromLocks (p : Port) (n : Notice) (k : Option Port) : (s.postFromLocks p n k).restart = s.restart := rfl
@[simp] theorem State.msPhase_postFromLocks (p : Port) (n : Notice) (k : Option Port) : (s.postFromLocks p n k).msPhase = s.msPhase := rfl
@[simp] theorem State.sclSample_postFromLocks (p : Port) (n : Notice) (k : Option Port) : (s.postFromLocks p n k).sclSample = s.sclSample := rfl
@[simp] theorem State.pending_postFromLocks (p : Port) (n : Notice) (k : Option Port) : (s.postFromLocks p n k).pending = s.pending := rfl

@[simp] theorem State.engine_postFromSessions (p : Port) (n : Notice) (k : Option Port) (q : Port) : (s.postFromSessions p n k).engine q = s.engine q := rfl
@[simp] theorem State.session_postFromSessions (p : Port) (n : Notice) (k : Option Port) (q : Port) : (s.postFromSessions p n k).session q = s.session q := rfl
@[simp] theorem State.lock_postFromSessions (p : Port) (n : Notice) (k : Option Port) (l : LockId) : (s.postFromSessions p n k).lock l = s.lock l := rfl
@[simp] theorem State.group_postFromSessions (p : Port) (n : Notice) (k : Option Port) (g : GroupId) : (s.postFromSessions p n k).group g = s.group g := rfl
@[simp] theorem State.cell_postFromSessions (p : Port) (n : Notice) (k : Option Port) (c : CellId) : (s.postFromSessions p n k).cell c = s.cell c := rfl
@[simp] theorem State.inbound_postFromSessions (p : Port) (n : Notice) (k : Option Port) (q : Port) : (s.postFromSessions p n k).inbound q = s.inbound q := rfl
@[simp] theorem State.noticeQueue_postFromSessions (p : Port) (n : Notice) (k : Option Port) (q : Port) : (s.postFromSessions p n k).noticeQueue q = s.noticeQueue q := rfl
@[simp] theorem State.limit_postFromSessions (p : Port) (n : Notice) (k : Option Port) (q : Port) : (s.postFromSessions p n k).limit q = s.limit q := rfl
@[simp] theorem State.lockPosts_postFromSessions (p : Port) (n : Notice) (k : Option Port) : (s.postFromSessions p n k).lockPosts = s.lockPosts := rfl
@[simp] theorem State.sessionPosts_postFromSessions (p : Port) (n : Notice) (k : Option Port) : (s.postFromSessions p n k).sessionPosts = s.sessionPosts ++ [Post.mk p n k] := rfl
@[simp] theorem State.messagePosts_postFromSessions (p : Port) (n : Notice) (k : Option Port) : (s.postFromSessions p n k).messagePosts = s.messagePosts := rfl
@[simp] theorem State.restart_postFromSessions (p : Port) (n : Notice) (k : Option Port) : (s.postFromSessions p n k).restart = s.restart := rfl
@[simp] theorem State.msPhase_postFromSessions (p : Port) (n : Notice) (k : Option Port) : (s.postFromSessions p n k).msPhase = s.msPhase := rfl
@[simp] theorem State.sclSample_postFromSessions (p : Port) (n : Notice) (k : Option Port) : (s.postFromSessions p n k).sclSample = s.sclSample := rfl
@[simp] theorem State.pending_postFromSessions (p : Port) (n : Notice) (k : Option Port) : (s.postFromSessions p n k).pending = s.pending := rfl

@[simp] theorem State.engine_postFromMessages (p : Port) (n : Notice) (k : Option Port) (q : Port) : (s.postFromMessages p n k).engine q = s.engine q := rfl
@[simp] theorem State.session_postFromMessages (p : Port) (n : Notice) (k : Option Port) (q : Port) : (s.postFromMessages p n k).session q = s.session q := rfl
@[simp] theorem State.lock_postFromMessages (p : Port) (n : Notice) (k : Option Port) (l : LockId) : (s.postFromMessages p n k).lock l = s.lock l := rfl
@[simp] theorem State.group_postFromMessages (p : Port) (n : Notice) (k : Option Port) (g : GroupId) : (s.postFromMessages p n k).group g = s.group g := rfl
@[simp] theorem State.cell_postFromMessages (p : Port) (n : Notice) (k : Option Port) (c : CellId) : (s.postFromMessages p n k).cell c = s.cell c := rfl
@[simp] theorem State.inbound_postFromMessages (p : Port) (n : Notice) (k : Option Port) (q : Port) : (s.postFromMessages p n k).inbound q = s.inbound q := rfl
@[simp] theorem State.noticeQueue_postFromMessages (p : Port) (n : Notice) (k : Option Port) (q : Port) : (s.postFromMessages p n k).noticeQueue q = s.noticeQueue q := rfl
@[simp] theorem State.limit_postFromMessages (p : Port) (n : Notice) (k : Option Port) (q : Port) : (s.postFromMessages p n k).limit q = s.limit q := rfl
@[simp] theorem State.lockPosts_postFromMessages (p : Port) (n : Notice) (k : Option Port) : (s.postFromMessages p n k).lockPosts = s.lockPosts := rfl
@[simp] theorem State.sessionPosts_postFromMessages (p : Port) (n : Notice) (k : Option Port) : (s.postFromMessages p n k).sessionPosts = s.sessionPosts := rfl
@[simp] theorem State.messagePosts_postFromMessages (p : Port) (n : Notice) (k : Option Port) : (s.postFromMessages p n k).messagePosts = s.messagePosts ++ [Post.mk p n k] := rfl
@[simp] theorem State.restart_postFromMessages (p : Port) (n : Notice) (k : Option Port) : (s.postFromMessages p n k).restart = s.restart := rfl
@[simp] theorem State.msPhase_postFromMessages (p : Port) (n : Notice) (k : Option Port) : (s.postFromMessages p n k).msPhase = s.msPhase := rfl
@[simp] theorem State.sclSample_postFromMessages (p : Port) (n : Notice) (k : Option Port) : (s.postFromMessages p n k).sclSample = s.sclSample := rfl
@[simp] theorem State.pending_postFromMessages (p : Port) (n : Notice) (k : Option Port) : (s.postFromMessages p n k).pending = s.pending := rfl

/-! ### Equal records, equal states -/

/-- A vector is known by its entries. -/
theorem vector_ext_fin {α : Type} {n : Nat} {u v : Vector α n} (h : ∀ i : Fin n, u[i] = v[i]) : u = v := by
  ext i hi
  exact h ⟨i, hi⟩

/-- Two states with the same records are equal. -/
theorem State.ext_records {s t : State} (engines : ∀ p, s.engine p = t.engine p) (sessions : ∀ p, s.session p = t.session p)
    (locks : ∀ l, s.lock l = t.lock l) (groups : ∀ g, s.group g = t.group g) (cells : ∀ c, s.cell c = t.cell c)
    (inbounds : ∀ p, s.inbound p = t.inbound p) (notices : ∀ p, s.noticeQueue p = t.noticeQueue p)
    (limits : ∀ p, s.limit p = t.limit p) (lockPosts : s.lockPosts = t.lockPosts)
    (sessionPosts : s.sessionPosts = t.sessionPosts) (messagePosts : s.messagePosts = t.messagePosts)
    (restart : s.restart = t.restart) (msPhase : s.msPhase = t.msPhase) (sclSample : s.sclSample = t.sclSample)
    (pending : s.pending = t.pending) : s = t := by
  cases s
  cases t
  simp only [State.mk.injEq]
  exact ⟨vector_ext_fin engines, vector_ext_fin sessions, vector_ext_fin locks, vector_ext_fin groups,
    vector_ext_fin cells, vector_ext_fin inbounds, vector_ext_fin notices, vector_ext_fin limits, lockPosts, sessionPosts,
    messagePosts, restart, msPhase, sclSample, pending⟩

/-! ### `discardPosts` -/

@[simp] theorem State.engine_discardPosts (f : Port → Bool) (q : Port) : (s.discardPosts f).engine q = s.engine q := rfl
@[simp] theorem State.session_discardPosts (f : Port → Bool) (q : Port) : (s.discardPosts f).session q = s.session q := rfl
@[simp] theorem State.lock_discardPosts (f : Port → Bool) (l : LockId) : (s.discardPosts f).lock l = s.lock l := rfl
@[simp] theorem State.group_discardPosts (f : Port → Bool) (g : GroupId) : (s.discardPosts f).group g = s.group g := rfl
@[simp] theorem State.cell_discardPosts (f : Port → Bool) (c : CellId) : (s.discardPosts f).cell c = s.cell c := rfl
@[simp] theorem State.inbound_discardPosts (f : Port → Bool) (q : Port) : (s.discardPosts f).inbound q = s.inbound q := rfl
@[simp] theorem State.noticeQueue_discardPosts (f : Port → Bool) (q : Port) : (s.discardPosts f).noticeQueue q = s.noticeQueue q := rfl
@[simp] theorem State.limit_discardPosts (f : Port → Bool) (q : Port) : (s.discardPosts f).limit q = s.limit q := rfl
@[simp] theorem State.lockPosts_discardPosts (f : Port → Bool) : (s.discardPosts f).lockPosts = withoutEnded f s.lockPosts := rfl
@[simp] theorem State.messagePosts_discardPosts (f : Port → Bool) : (s.discardPosts f).messagePosts = withoutEnded f s.messagePosts := rfl
@[simp] theorem State.sessionPosts_discardPosts (f : Port → Bool) : (s.discardPosts f).sessionPosts = s.sessionPosts := rfl
@[simp] theorem State.restart_discardPosts (f : Port → Bool) : (s.discardPosts f).restart = s.restart := rfl
@[simp] theorem State.msPhase_discardPosts (f : Port → Bool) : (s.discardPosts f).msPhase = s.msPhase := rfl
@[simp] theorem State.sclSample_discardPosts (f : Port → Bool) : (s.discardPosts f).sclSample = s.sclSample := rfl
@[simp] theorem State.pending_discardPosts (f : Port → Bool) : (s.discardPosts f).pending = s.pending := rfl

end Sys2Proof.Machine
end

