-- ==== Sys2Proof/Laws/Frames.lean ====
section
/-! SUPPORT. What becomes of a complete frame, and how a response is stored. -/

namespace Sys2Proof.Machine

/-! ### The engine that takes a frame -/

/-- The write address opens a frame at an engine that awaits an address byte. -/
theorem Engine.takeAddress_write {e : Engine} (h : e.state = .receiving) (ha : e.addressed = false) :
    e.takeAddress (writeAddress e.strap) =
      { e with addressed := true, frame := [], expected := none, check := crcStep 0x00 (writeAddress e.strap), acked := true,
               busTimer := some Config.busTimeout } := by
  simp [Engine.takeAddress, h, ha]

/-- A byte at an engine in IDLE or IGNORING is answered NACK and leaves the state (R186, R191). -/
theorem Engine.passByte_lets_pass {e : Engine} (h : e.state = .idle ∨ e.state = .ignoring) :
    e.passByte = { e with
      acked := false
      busTimer := if e.state = .ignoring then some Config.busTimeout else e.busTimer } := by
  rcases h with h | h <;> simp [Engine.passByte, h]

/-- The bytes of a write are taken one after the other, until one completes a frame. -/
@[simp] theorem Engine.takeBytes_nil (e : Engine) : e.takeBytes [] = e := rfl

theorem Engine.takeBytes_cons (e : Engine) (b : Byte) (bytes : List Byte) :
    e.takeBytes (b :: bytes) = if e.completes b = true then e else (e.takeByte b).takeBytes bytes := rfl

/-- A byte that completes no frame is taken, and the rest with what it leaves. -/
theorem Engine.takeBytes_step {e : Engine} {b : Byte} (h : e.completes b = false) (bytes : List Byte) :
    e.takeBytes (b :: bytes) = (e.takeByte b).takeBytes bytes := by
  simp [Engine.takeBytes_cons, h]

/-- A new frame at a sound engine that can receive: the link part of R185. -/
theorem Engine.openFrame_completeFrame {e : Engine} (sound : e.Sound) (h1 : e.state ≠ .executing) (h2 : e.state ≠ .stretched)
    (seq : Byte) (cmd : HostCommand) :
    { (e.openFrame (cmd.frameBytes seq)).completeFrame seq with memory := some (seq, cmd.code) } = e.carrying seq cmd := by
  obtain ⟨hf, hx, ha, hs, hw, -, -, -, -, -, -, -⟩ := sound
  have hwait : e.wait = .nothing := by
    by_contra hn
    exact h1 (hw hn)
  rcases e with ⟨st, ad, fr, ex, ck, sn, me, re, le, bt, sc, stt, strap, es, sl, w, hd, lc, ab, sd, ack, sent⟩
  simp only at *
  subst hwait
  cases st <;> simp_all [Engine.openFrame, Engine.takeStart, Engine.takeAddress, Engine.completeFrame, Engine.carrying,
    Engine.cuts, Engine.dropPartialFrame]
  all_goals (cases ad <;> simp_all)
  by_cases hp : fr <+: cmd.frameBytes seq
  · simp_all
  · have hq : fr.isPrefixOf (cmd.frameBytes seq) = false :=
      Bool.eq_false_iff.mpr fun h => hp (List.isPrefixOf_iff_prefix.mp h)
    cases fr
    · simp_all
    · simp [hp, hq]

/-- Opening a frame leaves the sequence memory. -/
theorem Engine.openFrame_memory (e : Engine) (bytes : List Byte) : (e.openFrame bytes).memory = e.memory := by
  unfold Engine.openFrame Engine.takeAddress Engine.passByte Engine.takeStart Engine.dropPartialFrame
  repeat' split
  all_goals rfl

/-- The renewal of the lease (R90). -/
theorem State.renewLease_eq (s : State) (p : Port) : s.renewLease p = s.setSession p (s.session p).renewed := by
  by_cases h : (s.session p).state = .opened <;> simp [State.renewLease, Session.renewed, h]

/-- The repeat step lets a new frame through: the memory takes it, and the session and authority steps let it pass (R166, R174,
R148). -/
theorem repeatStep_new {p : Port} {cmd : HostCommand} {carry : State → State} {s : State}
    (fresh : (s.engine p).memory.map Prod.fst ≠ some (s.engine p).execSeq)
    (session : cmd.passesSession (s.session p).state = true)
    (authority : cmd.isConfiguration = true → s.hasAuthority p = true) :
    repeatStep p cmd carry s = carry (s.remember p cmd) := by
  have pass : sessionAndAuthority p cmd carry (s.remember p cmd) = carry (s.remember p cmd) := by
    have ha : (s.remember p cmd).hasAuthority p = s.hasAuthority p := rfl
    simp only [sessionAndAuthority, ha]
    simp only [State.remember, State.session_setEngine, session]
    by_cases hc : cmd.isConfiguration = true <;> simp_all
  unfold repeatStep
  cases hm : (s.engine p).memory with
  | none => exact pass
  | some m =>
    obtain ⟨lastSeq, lastCmd⟩ := m
    simp_all

/-- A frame that is carried out comes to its command's own checks with the engine in EXECUTING and the lease renewed (R173). -/
theorem runFrame_carriedOut {s : State} {p : Port} {seq : Byte} {cmd : HostCommand} (carry : State → State)
    (h : CarriedOut s p seq cmd) : runFrame p seq cmd carry s = carry (s.carrying p seq cmd) := by
  obtain ⟨⟨⟨⟨sound, h1, h2⟩, hr, hl⟩, hm⟩, hs, ha⟩ := h
  have hscl : (s.engine p).holdsScl = false := by
    cases he : (s.engine p).state <;> simp_all [Engine.holdsScl]
  have hheld : s.holdsFrames p = false := by
    cases hr' : s.restart <;> simp_all [State.holdsFrames]
  set E := ((s.engine p).openFrame (cmd.frameBytes seq)).completeFrame seq with hE
  have hopen : { E with memory := some (seq, cmd.code) } = (s.engine p).carrying seq cmd :=
    Engine.openFrame_completeFrame sound h1 h2 seq cmd
  have hmem : E.memory = (s.engine p).memory := Engine.openFrame_memory (s.engine p) (cmd.frameBytes seq)
  have hseq : E.execSeq = seq := rfl
  have hses : (s.setEngine p E).session p = s.session p := rfl
  simp only [runFrame, hscl, hl, hheld, Bool.false_eq_true, if_false, if_true]
  rw [← hE, State.renewLease_eq, hses, repeatStep_new]
  · congr 1
    simp only [State.remember, State.engine_setSession, State.engine_setEngine, if_true, ← hopen,
      State.carrying]
    simp [State.setEngine, State.setSession]
    rfl
  · simpa [hmem, hseq] using hm
  · simp only [State.session_setSession, if_true, Session.renewed]
    split <;> simpa using hs
  · intro hc
    exact ha hc

/-! ### Responses -/

/-- A response is the record stored, SCL released and the engine in IGNORING (R170, R186), when no stage of a RESTART has been
put off. -/
theorem State.respond_eq_answer {s : State} {p : Port} (h : (s.engine p).stageDeferred = false) (st : Status)
    (data : List Byte) : s.respond p st data = s.answer p st data := by
  simp [State.respond, Engine.respond, Engine.leaveExecuting, State.answer, h, Config.busTimeout]

/-- A frame that is carried out finds no stage put off at its engine. -/
theorem CarriedOut.stageDeferred {s : State} {p : Port} {seq : Byte} {cmd : HostCommand} (h : CarriedOut s p seq cmd) :
    (s.engine p).stageDeferred = false := by
  obtain ⟨⟨⟨⟨sound, h1, -⟩, -⟩, -⟩, -⟩ := h
  obtain ⟨-, -, -, -, -, hd, -⟩ := sound
  cases hs : (s.engine p).stageDeferred
  · rfl
  · exact absurd (hd hs).1 h1

@[simp] theorem State.engine_carrying (s : State) (p q : Port) (seq : Byte) (cmd : HostCommand) :
    (s.carrying p seq cmd).engine q = if p = q then (s.engine p).carrying seq cmd else s.engine q := by
  simp [State.carrying]

@[simp] theorem State.session_carrying (s : State) (p q : Port) (seq : Byte) (cmd : HostCommand) :
    (s.carrying p seq cmd).session q = if p = q then (s.session p).renewed else s.session q := by
  simp [State.carrying]

@[simp] theorem State.lock_carrying (s : State) (p : Port) (seq : Byte) (cmd : HostCommand) (l : LockId) :
    (s.carrying p seq cmd).lock l = s.lock l := rfl

@[simp] theorem State.group_carrying (s : State) (p : Port) (seq : Byte) (cmd : HostCommand) (g : GroupId) :
    (s.carrying p seq cmd).group g = s.group g := rfl

@[simp] theorem State.cell_carrying (s : State) (p : Port) (seq : Byte) (cmd : HostCommand) (c : CellId) :
    (s.carrying p seq cmd).cell c = s.cell c := rfl

@[simp] theorem State.inbound_carrying (s : State) (p q : Port) (seq : Byte) (cmd : HostCommand) :
    (s.carrying p seq cmd).inbound q = s.inbound q := rfl

@[simp] theorem State.noticeQueue_carrying (s : State) (p q : Port) (seq : Byte) (cmd : HostCommand) :
    (s.carrying p seq cmd).noticeQueue q = s.noticeQueue q := rfl

@[simp] theorem State.limit_carrying (s : State) (p q : Port) (seq : Byte) (cmd : HostCommand) :
    (s.carrying p seq cmd).limit q = s.limit q := rfl

@[simp] theorem Session.renewed_state (x : Session) : x.renewed.state = x.state := by
  unfold Session.renewed
  split <;> rfl

@[simp] theorem Session.renewed_epoch (x : Session) : x.renewed.epoch = x.epoch := by
  unfold Session.renewed
  split <;> rfl

@[simp] theorem Session.renewed_prio (x : Session) : x.renewed.prio = x.prio := by
  unfold Session.renewed
  split <;> rfl

end Sys2Proof.Machine
end

