-- ==== Sys2Proof/Laws/Ops.lean ====
section
/-! SUPPORT. What each shared operation can change: for each of them one equation that names the fields of State it touches, and
what it does to the record it is about. -/

namespace Sys2Proof.Machine

variable (s : State)

/-! ### Endings and posts of the lock table -/

/-- An ending reaches one engine, which keeps the first one (R42). -/
@[simp] theorem State.engine_handEnding (p q : Port) (e : Ending) :
    (s.handEnding p e).engine q =
      if p = q then { s.engine p with handed := (s.engine p).handed <|> some e } else s.engine q := by
  simp [State.handEnding]

/-- Handing an ending touches engines only. -/
theorem State.handEnding_frame (p : Port) (e : Ending) : s.handEnding p e = { s with engines := (s.handEnding p e).engines } := rfl

/-- A guarded ending touches engines only (R44). -/
theorem State.endStretch_frame (w : Waiter) (e : Ending) : s.endStretch w e = { s with engines := (s.endStretch w e).engines } := rfl

/-- A guarded post touches the lock table's posts only (R50). -/
theorem State.postGuarded_frame (w : Waiter) (n : Notice) (k : Option Port) :
    s.postGuarded w n k = { s with lockPosts := (s.postGuarded w n k).lockPosts } := by
  unfold State.postGuarded
  split <;> rfl

/-- Telling a grant touches engines and the lock table's posts only (R40, R50). -/
theorem State.deliverGrant_frame (l : LockId) (w : Waiter) (m : Mode) (gen : Word16) (k : Option Port) :
    s.deliverGrant l w m gen k =
      { s with engines := (s.deliverGrant l w m gen k).engines, lockPosts := (s.deliverGrant l w m gen k).lockPosts } := by
  unfold State.deliverGrant
  split
  · rfl
  · rw [State.postGuarded_frame]

/-- Telling a batch touches engines and the lock table's posts only (R50). -/
theorem State.deliverBatch_frame (l : LockId) (gen : Word16) (k : Option Port) (ws : List Waiter) :
    s.deliverBatch l gen k ws =
      { s with engines := (s.deliverBatch l gen k ws).engines, lockPosts := (s.deliverBatch l gen k ws).lockPosts } := by
  induction ws generalizing s with
  | nil => rfl
  | cons w ws ih => rw [State.deliverBatch, ih, State.deliverGrant_frame]

/-! ### Orders -/

/-- An order touches groups only (R64). -/
theorem State.sendOrder_frame (l : LockId) (o : Order) : s.sendOrder l o = { s with groups := (s.sendOrder l o).groups } := by
  unfold State.sendOrder
  split <;> rfl

/-- An order goes to the end of the list of the lock's own group (R64). -/
theorem State.group_sendOrder (l : LockId) (o : Order) (g : GroupId) :
    (s.sendOrder l o).group g =
      if (s.lock l).group = some g then { s.group g with orders := (s.group g).orders ++ [o] } else s.group g := by
  unfold State.sendOrder
  split
  · rename_i g' h
    by_cases hg : g' = g
    · subst hg; simp [h]
    · simp [h, hg]
  · rename_i h
    simp [h]

/-! ### The grant pass and the release path -/

/-- What a pass sends touches engines, groups and the lock table's posts only. -/
theorem State.tellPass_frame (l : LockId) (gen : Word16) (k : Option Port) (a : PassAction) :
    s.tellPass l gen k a =
      { s with
        engines := (s.tellPass l gen k a).engines, groups := (s.tellPass l gen k a).groups
        lockPosts := (s.tellPass l gen k a).lockPosts } := by
  cases a <;> simp only [State.tellPass]
  · rw [State.deliverGrant_frame]
  · rw [State.deliverBatch_frame]
  · rw [State.deliverGrant_frame]
  · rw [State.sendOrder_frame]

/-- The grant pass touches engines, locks, groups and the lock table's posts only (R33 to R36). -/
theorem State.grantPass_frame (l : LockId) (k : Option Port) :
    s.grantPass l k =
      { s with
        engines := (s.grantPass l k).engines, locks := (s.grantPass l k).locks, groups := (s.grantPass l k).groups
        lockPosts := (s.grantPass l k).lockPosts } := by
  simp only [State.grantPass]
  rw [State.tellPass_frame]
  rfl

/-- The grant pass at one lock changes that lock's record only, as the pass says. -/
@[simp] theorem State.lock_grantPass (l q : LockId) (k : Option Port) :
    (s.grantPass l k).lock q = if l = q then (s.lock l).afterPass (s.lock l).pass else s.lock q := by
  simp only [State.grantPass]
  rw [State.tellPass_frame]
  exact State.lock_setLock s l q _

@[simp] theorem State.session_grantPass (l : LockId) (k : Option Port) (p : Port) :
    (s.grantPass l k).session p = s.session p := by
  rw [State.grantPass_frame]; rfl

@[simp] theorem State.pending_grantPass (l : LockId) (k : Option Port) : (s.grantPass l k).pending = s.pending := by
  rw [State.grantPass_frame]

/-- A lock that vacates sends a break order; nothing but its record and its group is touched (R14, R49). -/
theorem State.vacate_frame (l : LockId) (lk : LockRec) (from_ : Option Port) :
    s.vacate l lk from_ =
      { s with locks := (s.vacate l lk from_).locks, groups := (s.vacate l lk from_).groups } := by
  simp only [State.vacate]
  rw [State.sendOrder_frame]
  rfl

/-- The release path touches engines, locks, groups and the lock table's posts only (R14). -/
theorem State.releasePath_frame (l : LockId) (ports : List Port) (k : Option Port) :
    s.releasePath l ports k =
      { s with
        engines := (s.releasePath l ports k).engines, locks := (s.releasePath l ports k).locks
        groups := (s.releasePath l ports k).groups, lockPosts := (s.releasePath l ports k).lockPosts } := by
  simp only [State.releasePath]
  split
  · split
    · rw [State.grantPass_frame]; rfl
    · rw [State.vacate_frame]
  · rw [State.grantPass_frame]; rfl

/-- The release path at one lock leaves every other lock record. -/
theorem State.lock_releasePath_of_ne {l q : LockId} (h : l ≠ q) (ports : List Port) (k : Option Port) :
    (s.releasePath l ports k).lock q = s.lock q := by
  simp only [State.releasePath]
  split
  · split
    · simp [h]
    · simp only [State.vacate]
      rw [State.sendOrder_frame]
      exact (State.lock_setLock s l q _).trans (if_neg h)
  · simp [h]

@[simp] theorem State.session_releasePath (l : LockId) (ports : List Port) (k : Option Port) (p : Port) :
    (s.releasePath l ports k).session p = s.session p := by
  rw [State.releasePath_frame]; rfl

@[simp] theorem State.pending_releasePath (l : LockId) (ports : List Port) (k : Option Port) :
    (s.releasePath l ports k).pending = s.pending := by
  rw [State.releasePath_frame]

/-! ### Responses, the flush, posts to the peers -/

/-- A response touches engines only (R170). -/
theorem State.respond_frame (p : Port) (st : Status) (data : List Byte) :
    s.respond p st data = { s with engines := (s.respond p st data).engines } := rfl

/-- A response leaves the engines of the other ports. -/
theorem State.engine_respond_of_ne {p q : Port} (h : p ≠ q) (st : Status) (data : List Byte) :
    (s.respond p st data).engine q = s.engine q := by
  simp [State.respond, h]

/-- Letting go of one cell touches cells and the message block's posts only (R107, R121). -/
theorem State.release_frame (p : Port) (c : CellId) (o : ReceiptOutcome) (k : Option Port) :
    s.release p c o k =
      { s with cells := (s.release p c o k).cells, messagePosts := (s.release p c o k).messagePosts } := by
  unfold State.release State.postReceipt
  split
  · split <;> rfl
  · rfl

/-- Letting go of a list of cells touches cells and the message block's posts only (R120). -/
theorem State.releaseAll_frame (p : Port) (k : Option Port) (cs : List CellId) :
    s.releaseAll p k cs =
      { s with cells := (s.releaseAll p k cs).cells, messagePosts := (s.releaseAll p k cs).messagePosts } := by
  induction cs generalizing s with
  | nil => rfl
  | cons c cs ih => rw [State.releaseAll, ih, State.release_frame]

/-- The flush touches cells, inbound queues and the message block's posts only (R120). -/
theorem State.flushQueue_frame (p : Port) (k : Option Port) :
    s.flushQueue p k =
      { s with
        cells := (s.flushQueue p k).cells, inbounds := (s.flushQueue p k).inbounds
        messagePosts := (s.flushQueue p k).messagePosts } := by
  simp only [State.flushQueue]
  rw [State.releaseAll_frame]
  rfl

/-- A notice to peers touches the session block's posts only (R88, R99). -/
theorem State.tellPeers_frame (n : Notice) (k : Option Port) (qs : List Port) :
    s.tellPeers n k qs = { s with sessionPosts := (s.tellPeers n k qs).sessionPosts } := by
  induction qs generalizing s with
  | nil => rfl
  | cons q qs ih =>
    rw [State.tellPeers, ih]
    split <;> rfl

/-- New references touch inbound queues only (R114). -/
theorem State.appendReferences_frame (c : CellId) (qs : List Port) :
    s.appendReferences c qs = { s with inbounds := (s.appendReferences c qs).inbounds } := by
  induction qs generalizing s with
  | nil => rfl
  | cons q qs ih => rw [State.appendReferences, ih]; rfl

/-! ### A RESTART at the notice block -/

/-- The notice block drops posts and asserts no ATTN line while a RESTART that it has taken is in progress (R146). -/
theorem State.noticesCleared_iff (s : State) : s.noticesCleared = true ↔ ∃ r ∈ s.restart, r.noticeTaken = true := by
  unfold State.noticesCleared
  cases h : s.restart <;> simp

/-- A post is dropped, or taken at the queue of its port: nothing else can become of it (R132, R146). -/
theorem State.takePost_cases (s : State) (x : Post) :
    s.takePost x = s ∨
      s.noticesCleared = false ∧ (s.session x.port).state = .opened ∧
        s.takePost x = s.setNoticeQueue x.port ((s.noticeQueue x.port).takePost x.notice) := by
  unfold State.takePost
  split
  · exact .inl rfl
  · split
    · exact .inr ⟨by simp_all, ‹_›, rfl⟩
    · exact .inl rfl

/-- The bus-timeout timer after a millisecond is stopped, loaded, or one less (R191). -/
theorem countBusTimer_cases (timer : Option Nat) (scl : Config.SclLevel) :
    countBusTimer timer scl = none ∨ countBusTimer timer scl = some Config.busTimeout ∨
      countBusTimer timer scl = timer.map (· - 1) := by
  cases scl <;> cases timer <;> simp [countBusTimer]

/-- What is left of posts in flight when sessions have ended: the posts without a guard, and those to other ports (R126, R138). -/
theorem mem_withoutEnded (f : Port → Bool) (posts : List Post) (x : Post) :
    x ∈ withoutEnded f posts ↔ x ∈ posts ∧ (x.notice.guarded = true → f x.port = false) := by
  cases hg : x.notice.guarded <;> simp [withoutEnded, hg]

/-! ### Teardown steps and a RESTART -/

/-- A block has taken the RESTART that is in progress. -/
theorem State.restartTakenBy_iff (s : State) (block : RestartBlock) :
    s.restartTakenBy block = true ↔ ∃ r ∈ s.restart, r.takenBy block = true := by
  unfold State.restartTakenBy
  cases h : s.restart <;> simp

/-- The step in flight is the one handed on, at a block that has not taken a RESTART since (R105). -/
theorem State.teardownStep_eq_some (s : State) (p : Port) (t : Teardown) :
    s.teardownStep p = some t ↔ s.handedOn p = some t ∧ s.restartTakenBy t.step.block = false := by
  simp [State.teardownStep, Option.filter_eq_some_iff]

/-- Without a RESTART the step in flight is the one handed on. -/
theorem State.teardownStep_of_no_restart {s : State} (h : s.restart = none) (p : Port) : s.teardownStep p = s.handedOn p := by
  unfold State.teardownStep State.restartTakenBy
  cases s.handedOn p <;> simp [h]

end Sys2Proof.Machine
end

