-- ==== Sys2Proof/WellFormed.lean ====
section
/-! DEFINITION. Which commands a host or a block can really send. `exec` answers for the others too. -/

namespace Sys2Proof

/-- A command that can occur. A SEND frame has a len of at most 16 (R184); a link refusal
needs a byte to refuse; a read clocks at least one byte (R189); the third stage names a port at most once. -/
def Instr.wf : Instr → Bool
  | .send _ _ _ _ _ payload => decide (payload.length ≤ Config.maxPayload)
  | .linkRefusal _ bytes => decide (1 ≤ bytes.what.length)
  | .readTransaction _ count _ => decide (1 ≤ count.what)
  | .restartThirdStage order => decide order.Nodup
  | .status .. | .openSession .. | .close .. | .acquire .. | .release .. | .cancel .. | .downgrade .. | .query ..
  | .holdings .. | .take .. | .peek .. | .flush .. | .takeNotice .. | .setLockAttr .. | .setPortLimits ..
  | .bindRoute .. | .unbindRoute .. | .clearRouteFault .. | .forceRelease .. | .expel .. | .restart .. | .queryRoute ..
  | .restartSecondStage .. | .reset .. | .busCondition .. | .addressByte .. | .busTimeout .. | .holdLimitExpiry ..
  | .deadlineExpiry .. | .stretchLimitExpiry .. | .limitClaim .. | .stretchEnding .. | .leaseExpiry ..
  | .teardownHoldings .. | .teardownWaits .. | .teardownFlush .. | .teardownPeerEnded .. | .teardownEnd ..
  | .newPortLimitsTaken .. | .noticePost .. | .breakOrder .. | .makeOrder .. | .guardExpiry ..
  | .faultClearGuardExpiry .. | .settleExpiry .. | .confirmExpiry .. | .senseRise .. | .senseFall .. | .senseLoss ..
  | .routeClear .. | .routeMade .. | .routeFault .. => true

end Sys2Proof
end

