-- ==== Sys2Proof/Tests/Slice0.lean ====
section
/-! SUPPORT. Tests: ill-formed commands, layouts, one small step per command with the result the spec gives, and for each
statement states and operands that meet its hypotheses. -/

namespace Sys2Proof.Tests

open Sys2Proof Machine

/-! ### Small states -/

/-- The state after a command (every command answers a next state). -/
def after (c : Instr) (s : State) : State :=
  match exec c s with
  | .next t => t
  | .fault _ => s
  | .refused _ => s

def lockAs (l : LockId) (f : LockRec → LockRec) (s : State) : State := s.setLock l (f (s.lock l))
def groupAs (g : GroupId) (f : Group → Group) (s : State) : State := s.setGroup g (f (s.group g))
def engineAs (p : Port) (f : Engine → Engine) (s : State) : State := s.setEngine p (f (s.engine p))
def sessionAs (p : Port) (f : Session → Session) (s : State) : State := s.setSession p (f (s.session p))

/-- The session of a port is OPEN with epoch 1 and 400 of 500 ms of its lease left. -/
def opened : Session → Session := fun x => { x with state := .opened, epoch := 1, leasePeriod := 500, lease := 400 }

/-- The session of a port is ENDING, with a teardown step handed on. -/
def ending (step : TeardownStep) (locks : BitVec 32) (taken : Bool) : Session → Session := fun x =>
  { x with
    state := .ending, epoch := 1, leasePeriod := 500, lease := 0, endReason := .lapsed
    teardown := some { step := step, locks := locks, taken := taken } }

/-- P0 and P1 have sessions. -/
def two : State := sessionAs 1 opened (sessionAs 0 opened State.reset)

def holder (p : Port) (m : Mode) (gen : Word16) : Holder := { port := p, mode := m, gen := gen, hold := none }

def waiter (p : Port) (r : ReqMode) : Waiter :=
  { port := p, req := r, prio := 1, deadline := none, blocking := false, epoch := 1 }

/-- A blocking entry with a deadline. -/
def blocker (p : Port) (r : ReqMode) : Waiter := { waiter p r with blocking := true, deadline := some 40 }

/-- A lock held EXCLUSIVE by a port under generation 5. -/
def heldBy (p : Port) : LockRec → LockRec := fun lk =>
  { lk with state := .exclusive, gen := 5, holders := [holder p .exclusive 5] }

/-- A lock held SHARED by P0 and P1. -/
def sharedByTwo : LockRec → LockRec := fun lk =>
  { lk with state := .shared, gen := 5, holders := [holder 0 .shared 4, holder 1 .shared 5] }

def queueOf (ws : List Waiter) : LockRec → LockRec := fun lk => { lk with queue := ws }

/-- P0 holds L0. -/
def authority : State := lockAs 0 (heldBy 0) two

/-- G0 is bound to L5, with guard time 40 µs and confirm time 3 ms; the group is BROKEN and the lock FREE. -/
def bound : State :=
  groupAs 0 (fun g => { g with state := .broken, lock := some 5, guardUnits := 4, confirmMs := 3 })
    (lockAs 5 (fun lk => { lk with group := some 0 }) authority)

/-- L5 is in HANDOVER toward P1, and G0 is in MAKING with EN asserted. -/
def making : State :=
  groupAs 0 (fun g => { g with state := .making, select := 1, enable := true, timer := .confirmTime 3 })
    (lockAs 5 (fun lk => { lk with state := .handover, target := some { waiter 1 .exclusive with blocking := false } }) bound)

/-- The engine of a port is STRETCHED for a lock. -/
def stretched (l : LockId) : Engine → Engine := fun e =>
  { e with state := .stretched, stretchTimer := some 20, stretchLock := some l, execSeq := 9 }

/-- P1 waits for L3, blocking, while P0 holds it. -/
def blocked : State := engineAs 1 (stretched 3) (lockAs 3 (fun lk => queueOf [blocker 1 .exclusive] (heldBy 0 lk)) two)

/-- The engine of a port waits in EXECUTING. -/
def executing (w : ExecWait) : Engine → Engine := fun e => { e with state := .executing, wait := w, execSeq := 9 }

/-- A RESTART of P0 with the first stage handed on. -/
def restarting (done : Bool) : State :=
  { engineAs 0 (executing .restartStages) authority with
    restart := some { requester := 0, sessionTaken := done, lockTaken := done, messageTaken := done, noticeTaken := done } }

/-- A message from P0 in cell 0 names two queues. -/
def message : Cell :=
  { source := 0, epoch := 1, number := 1, tag := 0x2A, receipt := true, broadcast := true, payload := [0x10, 0x20], refs := 2 }

def mailed : State :=
  ((two.setCell 0 (some message)).setInbound 1 { two.inbound 1 with queue := [0] }).setInbound 2
    { two.inbound 2 with queue := [0] }

def post (p : Port) : Post := { port := p, notice := .waitExpired 3, cause := none }

/-! ### Ill-formed commands -/

/-- The len byte of a SEND is at most 16 (R184). -/
theorem test_wf_send_too_long : (Instr.send 0 1 1 0 0 (List.replicate 17 0)).wf = false := by decide

/-- A refusal needs a byte to refuse. -/
theorem test_wf_link_refusal_empty : (Instr.linkRefusal 0 (.opened [])).wf = false := by decide

/-- A read clocks a byte. -/
theorem test_wf_read_nothing : (Instr.readTransaction 0 (.resumed 0) true).wf = false := by decide

/-- The third stage names a port once. -/
theorem test_wf_third_stage_twice : (Instr.restartThirdStage [1, 1]).wf = false := by decide

/-- A SEND of 16 bytes is well-formed. -/
theorem test_wf_send_longest : (Instr.send 0 1 1 0 0 (List.replicate 16 0)).wf = true := by decide

/-! ### Layouts and codes -/

/-- The frame of an ACQUIRE: SEQ, CMD 0x10, lock, mode, wait, deadline with its most significant byte first ("Command Frames"). -/
theorem test_acquire_frame :
    (HostCommand.acquire 5 1 2 300).frameBytes 17 = [17, 0x10, 5, 1, 2, 0x01, 0x2C] := by decide

/-- The check register over one byte 0x01: the eighth shift pushes the 1 out and leaves the generator 0x07 (R163). -/
theorem test_check_of_one : crc8 [0x01] = 0x07 := by decide

/-- The addresses of a port with strap 2 are 0x3E with the direction bit (R181). -/
theorem test_addresses : writeAddress 2 = 0x7C ∧ readAddress 2 = 0x7D := by decide

/-- The table of the spec gives no row a bit, so no word spells a command. -/
theorem test_no_word_spells_a_command : decodeTableWord 8 0x10 = none := by decide

/-! ### One step of each command -/

/-- STATUS of an OPEN port: the lease is full again, 64 cells are free and no port has authority (R102). -/
theorem test_status : ((after (.status 0 7) two).engine 0).resp =
    { status := .ok, echo := 7, data := [1, 0, 1, 0, 0x01, 0xF4, 0, 0, 64, 0xFF, 0, 0] } := by decide

/-- The first OPEN gives epoch 1 and the end reason NONE (R104). -/
theorem test_open : ((after (.openSession 2 7 100 3 0 1) two).engine 2).resp =
    { status := .ok, echo := 7, data := [1, 3, 0] } := by decide

/-- OPEN tells the two ports that are OPEN (R88). -/
theorem test_open_tells_peers : (after (.openSession 2 7 100 3 0 1) two).sessionPosts.map Post.port = [0, 1] := by decide

/-- CLOSE of an OPEN port: ENDING, the port itself waits (R93). -/
theorem test_close : ((after (.close 0 7) two).session 0).state = .ending ∧
    ((after (.close 0 7) two).session 0).awaiter = some 0 := by decide

/-- ACQUIRE of a FREE lock: GRANTED with mode EXCLUSIVE and generation 1 (R10). -/
theorem test_acquire : ((after (.acquire 0 7 31 1 0 0) two).engine 0).resp =
    { status := .granted, echo := 7, data := [1, 0, 1] } := by decide

/-- A blocking ACQUIRE of a held lock stretches and stores nothing (R39). -/
theorem test_acquire_blocks : ((after (.acquire 1 7 3 1 2 0) (lockAs 3 (heldBy 0) two)).engine 1).state = .stretched ∧
    ((after (.acquire 1 7 3 1 2 0) (lockAs 3 (heldBy 0) two)).engine 1).resp.status = .noRecord := by decide

/-- RELEASE of a bound lock makes it VACATING from its holder (R14). -/
theorem test_release_bound : ((after (.release 1 7 5 5) (lockAs 5 (heldBy 1) bound)).lock 5).state = .vacating ∧
    ((after (.release 1 7 5 5) (lockAs 5 (heldBy 1) bound)).lock 5).vacatingFrom = some 1 := by decide

/-- A stale generation is refused (R15). -/
theorem test_release_stale : ((after (.release 0 7 3 4) (lockAs 3 (heldBy 0) two)).engine 0).resp.status = .stale := by decide

/-- CANCEL of a queued wait (R48). -/
theorem test_cancel :
    ((after (.cancel 1 7 3) (lockAs 3 (fun lk => queueOf [waiter 1 .exclusive] (heldBy 0 lk)) two)).lock 3).queue = [] := by
  decide

/-- DOWNGRADE keeps the generation (R18). -/
theorem test_downgrade : ((after (.downgrade 0 7 3 5) (lockAs 3 (heldBy 0) two)).lock 3).holders = [holder 0 .shared 5] := by
  decide

/-- QUERY of a held lock: EXCLUSIVE, sharing allowed, no limit, not bound, generation 5, one holder ("QUERY data"). -/
theorem test_query : ((after (.query 1 7 3) (lockAs 3 (heldBy 0) two)).engine 1).resp.data.take 12 =
    [1, 1, 0, 0, 0xFF, 0, 5, 1, 0, 1, 0, 5] := by decide

set_option maxRecDepth 4000 in
/-- HOLDINGS: L3 is bit 3 of the least significant byte of the first set ("Sets"). -/
theorem test_holdings : ((after (.holdings 0 7) (lockAs 3 (heldBy 0) two)).engine 0).resp.data =
    [0, 0, 0, 8, 0, 0, 0, 0, 0, 0, 0, 0, 0, 0, 0, 0] := by decide

/-- The first message has number 1, and its set names P1 (R114). -/
theorem test_send : ((after (.send 0 7 1 0x2A 1 [5]) two).engine 0).resp = { status := .ok, echo := 7, data := [0, 1, 2] } := by
  decide

/-- A SEND to a port without a session (R112). -/
theorem test_send_absent : ((after (.send 0 7 3 0x2A 1 [5]) two).engine 0).resp.status = .peerAbsent := by decide

/-- TAKE of a broadcast with a receipt: its record, and one reference less (R116). -/
theorem test_take : ((after (.take 1 7) mailed).engine 1).resp.data = [0, 1, 0x2A, 0, 1, 3, 2, 0x10, 0x20] ∧
    ((after (.take 1 7) mailed).cell 0).map Cell.refs = some 1 := by decide

/-- PEEK of an empty queue (R117). -/
theorem test_peek_empty : ((after (.peek 0 7) two).engine 0).resp = { status := .empty, echo := 7, data := [] } := by decide

/-- FLUSH posts a DISCARDED receipt to the sender (R120). -/
theorem test_flush : (after (.flush 1 7) mailed).messagePosts =
    [{ port := 0, notice := .receipt 1 1 .discarded, cause := none }] := by decide

/-- TAKE_NOTICE on an empty queue reports the lost flag in bit 7 (R135). -/
theorem test_take_notice_lost : ((after (.takeNotice 0 7) (two.setNoticeQueue 0 { records := [], lost := true })).engine 0).resp =
    { status := .empty, echo := 7, data := [0x80] } := by decide

/-- TAKE_NOTICE with a second record behind the first ("Notice Records"). -/
theorem test_take_notice :
    ((after (.takeNotice 0 7)
      (two.setNoticeQueue 0 { records := [.granted 3 .exclusive 0x1234, .waitExpired 4], lost := false })).engine 0).resp.data =
    [1, 0x01, 3, 1, 0x12, 0x34] := by decide

/-- SET_LOCK_ATTR writes the hold limit (R152). -/
theorem test_set_lock_attr : ((after (.setLockAttr 0 7 3 0 900) authority).lock 3).holdLimit = 900 ∧
    ((after (.setLockAttr 0 7 3 0 900) authority).lock 3).sharedAllowed = false := by decide

/-- SET_PORT_LIMITS without authority (R148). -/
theorem test_set_port_limits_refused :
    ((after (.setPortLimits 1 7 2 3 16 32 20) authority).engine 1).resp.status = .notAuthorized := by decide

/-- SET_PORT_LIMITS waits for the three blocks (R154). -/
theorem test_set_port_limits : ((after (.setPortLimits 0 7 2 1 8 9 50) authority).engine 0).state = .executing ∧
    (after (.setPortLimits 0 7 2 1 8 9 50) authority).limit 2 = { cap := 1, quota := 8, sendCap := 9, stretch := 50 } := by
  decide

/-- BIND_ROUTE joins group and lock (R76). -/
theorem test_bind_route : ((after (.bindRoute 0 7 3 31 1 0) authority).group 3).lock = some 31 ∧
    ((after (.bindRoute 0 7 3 31 1 0) authority).lock 31).group = some 3 := by decide

/-- UNBIND_ROUTE of a BROKEN group parts them (R77). -/
theorem test_unbind_route : ((after (.unbindRoute 0 7 0) bound).group 0).state = .unbound ∧
    ((after (.unbindRoute 0 7 0) bound).lock 5).group = none := by decide

/-- CLEAR_ROUTE_FAULT outside FAULT (R78). -/
theorem test_clear_route_fault : ((after (.clearRouteFault 0 7 0) bound).engine 0).resp.status = .state := by decide

/-- FORCE_RELEASE of two holders (R21). -/
theorem test_force_release : ((after (.forceRelease 0 7 3) (lockAs 3 sharedByTwo authority)).engine 0).resp.data = [2] ∧
    (after (.forceRelease 0 7 3) (lockAs 3 sharedByTwo authority)).lockPosts.length = 2 := by decide

/-- EXPEL of an OPEN port (R95). -/
theorem test_expel : ((after (.expel 0 7 1) authority).session 1).endReason = .expelled ∧
    ((after (.expel 0 7 1) authority).session 1).awaiter = some 0 := by decide

/-- RESTART stores RESTARTED at the other engines (R158). -/
theorem test_restart : ((after (.restart 0 7) authority).engine 3).resp = { status := .restarted, echo := 0, data := [] } := by
  decide

/-- QUERY_ROUTE: MAKING, L5, select 1, EN, guard 4, confirm 3 ("QUERY_ROUTE data"). -/
theorem test_query_route : ((after (.queryRoute 1 7 0) making).engine 1).resp.data = [3, 5, 1, 1, 4, 3] := by decide

/-- The session block takes RESTART: CLOSED with end reason RESTART, the epoch kept (R105). -/
theorem test_restart_second_stage : ((after (.restartSecondStage .session) (restarting false)).session 1).endReason = .restart ∧
    ((after (.restartSecondStage .session) (restarting false)).session 1).epoch = 1 := by decide

/-- The third stage answers OK with the SEQ of the RESTART frame (R160). -/
theorem test_restart_third_stage : ((after (.restartThirdStage []) (restarting true)).engine 0).resp =
    { status := .ok, echo := 9, data := [] } := by decide

/-- RESET samples the straps, AS1 the high bit (R181). -/
theorem test_reset : ((after (.reset true false) authority).engine 3).strap = 2 ∧
    ((after (.reset true false) authority).lock 0).holders = [] := by decide

/-- A STOP after a frame byte sets the link-error flag (R183). -/
theorem test_bus_condition :
    ((after (.busCondition 0 .stop)
      (engineAs 0 (fun e => { e with state := .receiving, addressed := true, frame := [7] }) two)).engine 0).linkError = true := by
  decide

/-- Another address is not acknowledged, without a flag (R181). -/
theorem test_address_byte :
    ((after (.addressByte 0 0x00) (engineAs 0 (fun e => { e with state := .receiving }) two)).engine 0).state = .ignoring ∧
    ((after (.addressByte 0 0x00) (engineAs 0 (fun e => { e with state := .receiving }) two)).engine 0).linkError = false := by
  decide

/-- A command code that is none sets the flag (R184). -/
theorem test_link_refusal : ((after (.linkRefusal 0 (.opened [7, 0x99])) two).engine 0).linkError = true := by decide

/-- A len byte of 17 is refused at the link (R184). -/
theorem test_link_refusal_len :
    ((after (.linkRefusal 0 (.opened [7, 0x20, 1, 0, 0, 17])) two).engine 0).state = .ignoring := by decide

/-- A host that writes on after a complete frame, before any condition, finds its byte answered NACK, without a flag (R186). -/
theorem test_byte_after_frame :
    ((after (.status 0 7) two).engine 0).acked = true ∧
      ((after (.linkRefusal 0 (.resumed [0x55])) (after (.status 0 7) two)).engine 0).acked = false ∧
      ((after (.linkRefusal 0 (.resumed [0x55])) (after (.status 0 7) two)).engine 0).linkError = false := by decide

/-- After a bus timeout a read that goes on without a START gives 0xFF (R191). -/
theorem test_read_after_timeout :
    ((after (.readTransaction 0 (.resumed 2) true)
      (after (.busTimeout 0) (after (.readTransaction 0 (.opened 1) false) two))).engine 0).sent = [0xF0, 0xFF, 0xFF] := by decide

/-- A read of the NONE record: STATUS 0xF0, echo 0, LEN 0 (R172). -/
theorem test_read : ((after (.readTransaction 0 (.opened 3) true) two).engine 0).sent = [0xF0, 0, 0] := by decide

/-- Past CHECK a read gives 0xFF (R189). -/
theorem test_read_past_check :
    ((after (.readTransaction 0 (.opened 6) false) two).engine 0).sent.drop 4 = [0xFF, 0xFF] := by decide

/-- A bus timeout in SENDING sets the flag (R191). -/
theorem test_bus_timeout :
    ((after (.busTimeout 0)
      (engineAs 0 (fun e => { e with state := .sending, snapshot := some (e.resp, 1), busTimer := some 0 }) two)).engine
        0).linkError = true := by
  decide

/-- A stopped bus-timeout timer does not expire: SCL is high, and the host may still send its address byte (R191). -/
theorem test_bus_timeout_stopped :
    ((after (.busTimeout 0) (engineAs 0 (fun e => { e with state := .receiving }) two)).engine 0).state = .receiving := by
  decide

/-- The hold limit takes the lock back (R19). -/
theorem test_hold_limit :
    ((after (.holdLimitExpiry 3 0)
      (lockAs 3 (fun lk => { heldBy 0 lk with holders := [{ holder 0 .exclusive 5 with hold := some 0 }] }) two)).lock 3).state =
    .free := by decide

/-- The deadline of a blocking entry hands EXPIRED (R41). -/
theorem test_deadline : ((after (.deadlineExpiry 3 1) blocked).engine 1).handed = some .expired := by decide

/-- The stretch limit sends a limit claim and keeps the clock (R188). -/
theorem test_stretch_limit : ((after (.stretchLimitExpiry 1) blocked).engine 1).limitClaim = some 3 ∧
    ((after (.stretchLimitExpiry 1) blocked).engine 1).state = .stretched := by decide

/-- The limit claim hands PENDING, and the entry waits on (R42). -/
theorem test_limit_claim :
    ((after (.limitClaim 1) (engineAs 1 (fun e => { e with limitClaim := some 3 }) blocked)).engine 1).handed = some .pending ∧
    ((after (.limitClaim 1) (engineAs 1 (fun e => { e with limitClaim := some 3 }) blocked)).lock 3).queue =
      [{ blocker 1 .exclusive with blocking := false }] := by decide

/-- The ending is stored with the SEQ of the frame (R188). -/
theorem test_stretch_ending :
    ((after (.stretchEnding 1) (engineAs 1 (fun e => { e with handed := some (.granted .exclusive 6) }) blocked)).engine 1).resp =
    { status := .granted, echo := 9, data := [1, 0, 6] } := by decide

/-- The lease runs out: LAPSED, and no port waits (R91). -/
theorem test_lease :
    ((after (.leaseExpiry 0) (sessionAs 0 (fun x => { x with lease := 0 }) two)).session 0).endReason = .lapsed ∧
    ((after (.leaseExpiry 0) (sessionAs 0 (fun x => { x with lease := 0 }) two)).session 0).awaiter = none := by decide

/-- A renewal that is taken first leaves nothing to expire (R91). -/
theorem test_lease_renewed :
    ((after (.leaseExpiry 0) (after (.status 0 7) (sessionAs 0 (fun x => { x with lease := 0 }) two))).session 0).state =
      .opened := by decide

/-- The first step at a lock the port holds (R97). -/
theorem test_teardown_holdings :
    ((after (.teardownHoldings 0 3) (sessionAs 0 (ending .holdings 0 false) (lockAs 3 (heldBy 0) two))).lock 3).state = .free := by
  decide

/-- The second step at a lock the port waits for (R51). -/
theorem test_teardown_waits :
    ((after (.teardownWaits 1 3) (sessionAs 1 (ending .waits 0 false) blocked)).engine 1).handed = some .aborted := by decide

/-- The third step empties the inbound queue (R98). -/
theorem test_teardown_flush :
    ((after (.teardownFlush 1) (sessionAs 1 (ending .flush 0 false) mailed)).inbound 1).queue = [] := by decide

/-- The fourth step tells the OPEN peers (R99). -/
theorem test_teardown_peer :
    (after (.teardownPeerEnded 1) (sessionAs 1 (ending .peerEnded 0 false) two)).sessionPosts =
      [{ port := 0, notice := .peerEnded 1 1 .lapsed, cause := some 1 }] := by decide

/-- The fifth step closes the session and keeps the epoch (R100). -/
theorem test_teardown_end : ((after (.teardownEnd 1) (sessionAs 1 (ending .finish 0 false) two)).session 1).state = .closed ∧
    ((after (.teardownEnd 1) (sessionAs 1 (ending .finish 0 false) two)).session 1).epoch = 1 := by decide

/-- A receipt still on its way when the session of the sender ends does not reach its next session (R126). -/
theorem test_receipt_of_ended_session :
    let mail := after (.teardownEnd 0) (sessionAs 0 (ending .finish 0 false) (after (.take 1 7) mailed))
    (after (.take 1 7) mailed).messagePosts ≠ [] ∧
      ((after (.noticePost .messageBlock) (after (.openSession 0 8 100 0 0 0) mail)).noticeQueue 0).records = [] := by
  decide

/-- PEER_ENDED that has been handed on when the notice block takes a RESTART is discarded there (R105). -/
theorem test_peer_ended_at_restart :
    let s := sessionAs 1 (ending .flush 0 true) (restarting false)
    (after (.teardownPeerEnded 1) s).sessionPosts.map Post.port = [0] ∧
      (after (.teardownPeerEnded 1) (after (.restartSecondStage .notice) s)).sessionPosts = [] := by
  decide

/-- A port whose engine waits for port limits that lower the cap of P1 to 0. -/
def limiting : State :=
  engineAs 0
    (executing (.portLimits { port := 1, cap := 0, quota := 1, sendCap := 64, stretch := 50, sessionTaken := false,
                              messageTaken := false, engineTaken := false }))
    (sessionAs 1 (fun x => { x with prio := 2 }) authority)

/-- A lowered cap lowers the priority of an OPEN session (R155). -/
theorem test_new_port_limits : ((after (.newPortLimitsTaken 0 .session) limiting).session 1).prio = 0 := by decide

/-- A post to an OPEN port is stored (R132). -/
theorem test_notice_post : ((after (.noticePost .lockTable) { two with lockPosts := [post 1] }).noticeQueue 1).records =
    [.waitExpired 3] := by decide

/-- The notice block's arrival of a RESTART deasserts ATTN, while the session is OPEN and its queue at the threshold (R146). -/
theorem test_attn_at_restart :
    let s := sessionAs 1 (fun x => { x with threshold := 1 }) { mailed with restart := (restarting false).restart }
    s.attn 1 = true ∧ (after (.restartSecondStage .notice) (engineAs 0 (executing .restartStages) s)).attn 1 = false := by decide

/-- A break order in MAKING lowers EN (R65). -/
theorem test_break_order : ((after (.breakOrder 0) (groupAs 0 (fun g => { g with orders := [.breakRoute] }) making)).group 0).timer =
    .guardTime 4 := by decide

/-- A make order sets the select value (R68). -/
theorem test_make_order :
    ((after (.makeOrder 0) (groupAs 0 (fun g => { g with orders := [.makeRoute 2] }) bound)).group 0).select = 2 ∧
    ((after (.makeOrder 0) (groupAs 0 (fun g => { g with orders := [.makeRoute 2] }) bound)).group 0).enable = false := by decide

/-- The guard time ends in BREAKING (R66). -/
theorem test_guard_expiry :
    ((after (.guardExpiry 0) (groupAs 0 (fun g => { g with state := .breaking, timer := .guardTime 0 }) bound)).group 0).reports =
    [.clear] := by decide

/-- The guard time ends in FAULT while clearing (R79). -/
theorem test_fault_clear_guard_expiry :
    ((after (.faultClearGuardExpiry 0)
      (groupAs 0 (fun g => { g with state := .fault, clearing := true, timer := .guardTime 0 }) bound)).group 0).state = .broken := by
  decide

/-- The settle time ends with SENSE low: the confirm timer runs (R69). -/
theorem test_settle_expiry :
    ((after (.settleExpiry 0) (groupAs 0 (fun g => { g with enable := false, timer := .settleTime 0 }) making)).group 0).timer =
    .confirmTime 3 := by decide

/-- The confirm time ends: FAULT, EN low (R72). -/
theorem test_confirm_expiry : ((after (.confirmExpiry 0) making).group 0).state = .fault ∧
    ((after (.confirmExpiry 0) making).group 0).enable = false := by decide

/-- SENSE makes the route (R70). -/
theorem test_sense_rise : ((after (.senseRise 0) making).group 0).reports = [.made 1] := by decide

/-- A fall of SENSE waits for its filter (R60). -/
theorem test_sense_fall :
    ((after (.senseFall 0)
      (groupAs 0 (fun g => { g with senseInput := true, senseFiltered := true }) making)).group 0).senseFiltered = true := by decide

/-- A route whose SENSE is gone for 1 ms faults (R73). -/
theorem test_sense_loss :
    ((after (.senseLoss 0)
      (groupAs 0 (fun g => { g with state := .made, timer := .stopped, senseFiltered := true, senseTimer := some 0 }) making)).group
        0).reports = [.fault] := by decide

/-- Route made grants the target (R71). -/
theorem test_route_made :
    ((after (.routeMade 0) (groupAs 0 (fun g => { g with reports := [.made 1] }) making)).lock 5).holders =
    [holder 1 .exclusive 1] := by decide

/-- Route clear makes a VACATING lock FREE (R67). -/
theorem test_route_clear :
    ((after (.routeClear 0) (groupAs 0 (fun g => { g with reports := [.clear] })
      (lockAs 5 (fun lk => { lk with state := .vacating, vacatingFrom := some 1 }) bound))).lock 5).state = .free := by decide

/-- A route fault in HANDOVER tells the target by notice (R74, R43). -/
theorem test_route_fault : (after (.routeFault 0) (groupAs 0 (fun g => { g with reports := [.fault] }) making)).lockPosts =
    [{ port := 1, notice := .waitFailed 5, cause := none }] := by decide

/-! ### For each statement, states and operands that meet its hypotheses -/

/-- A sound lock record, from its four checks. -/
theorem soundOf {l : LockId} {lk : LockRec} (h1 : lk.HoldersFit) (h2 : lk.QueueFits) (h3 : lk.PlacesFit)
    (h4 : lk.AttributesFit l) : lk.Sound l := ⟨h1, h2, h3, h4⟩

/-- Every lock of a part is sound. -/
theorem locksSoundOf {s : State} (h1 : ∀ l, (s.lock l).HoldersFit) (h2 : ∀ l, (s.lock l).QueueFits)
    (h3 : ∀ l, (s.lock l).PlacesFit) (h4 : ∀ l, (s.lock l).AttributesFit l) : s.LocksSound :=
  fun l => soundOf (h1 l) (h2 l) (h3 l) (h4 l)

/-- Nothing of its own to do, below and at the end of a millisecond; and a lease run out. -/
theorem witness_EmptyQueueTakesAClaimOrLetsTimePass :
    two.pending = [] ∧ two.ownClaims = [] ∧ two.msPhase < 99 ∧ (two.session 0).state = .opened ∧
      (two.session 2).state ≠ .opened ∧ making.ownClaims = [] ∧ (making.group 0).timer = .confirmTime 3 ∧
      (engineAs 0 (fun e => { e with state := .receiving }) { two with msPhase := 99 }).ownClaims = [] ∧
      (two.group 0).timer = .stopped ∧
      ({ two with msPhase := 98 } : State).ownClaims = [] ∧ ({ two with msPhase := 99 } : State).ownClaims = [] ∧
      (groupAs 0 (fun g => { g with state := .breaking, timer := .guardTime 4 }) bound).ownClaims = [] ∧
      (groupAs 0 (fun g => { g with state := .making, timer := .settleTime 1 }) bound).ownClaims = [] ∧
      (sessionAs 0 (fun x => { x with lease := 0 }) two).ownClaims = [.leaseExpiry 0] := by
  decide

/-- The state of RESET, by the command and at the start of a run. -/
theorem witness_ResetStateHoldsTheStatedValues :
    exec (.reset true true) two = .next (after (.reset true true) two) ∧ State.reset = State.reset := ⟨rfl, rfl⟩

/-- A repeat, a reused SEQ, another SEQ, and an empty memory; a frame that passes no session step, one that passes no authority
step, and one of each kind that passes both. -/
theorem witness_RepeatStepOfEveryFrame :
    let s := engineAs 0 (fun e => { e with memory := some (7, 0x21) }) two
    FrameComes State.reset 0 .take ∧ HostCommand.take.passesSession (State.reset.session 0).state = false ∧
      FrameComes authority 1 .restart ∧ HostCommand.restart.passesSession (authority.session 1).state = true ∧
      HostCommand.restart.isConfiguration = true ∧ authority.hasAuthority 1 = false ∧
      FrameComes authority 0 .restart ∧ authority.hasAuthority 0 = true ∧
      HostCommand.take.passesSession (two.session 0).state = true ∧ HostCommand.take.isConfiguration = false ∧
    FrameComes s 0 .take ∧ (s.engine 0).memory = some (7, 0x21) ∧ (0x21 : Byte) = HostCommand.take.code ∧
      FrameComes s 0 .peek ∧ (0x21 : Byte) ≠ HostCommand.peek.code ∧
      (s.engine 0).memory.map Prod.fst ≠ some 8 ∧ (two.engine 0).memory.map Prod.fst ≠ some (0 : Byte) := by
  and_intros <;> decide

/-- No session, a CLOSE in ENDING; the lowest and the highest configuration command without authority; arguments just out of range. -/
theorem witness_CommonChecksRefuse :
    FrameArrives State.reset 0 7 .take ∧ (State.reset.session 0).state ≠ .opened ∧
      FrameArrives (sessionAs 0 (ending .holdings 0 false) two) 0 7 .close ∧
      ((sessionAs 0 (ending .holdings 0 false) two).session 0).state = .ending ∧
      FrameArrives authority 1 7 (.setLockAttr 3 1 0) ∧ (HostCommand.setLockAttr 3 1 0).code = 0x30 ∧
      FrameArrives authority 1 7 .restart ∧ HostCommand.restart.code = 0x37 ∧ (authority.session 1).state = .opened ∧
      (∀ h ∈ (authority.lock 0).holders, h.port = 1 → h.mode ≠ .exclusive) ∧
      CarriedOut two 0 7 (.query 32) ∧ (HostCommand.query 32).inRange 0 = false ∧
      CarriedOut two 2 7 (.openSession 99 0 0 0) ∧ (HostCommand.openSession 99 0 0 0).inRange 2 = false ∧
      CarriedOut authority 0 7 (.setPortLimits 1 3 16 65 20) ∧
      (HostCommand.setPortLimits 1 3 16 65 20).inRange 0 = false := by
  and_intros <;> decide

/-- An engine that holds SCL, in each of the two states; a frame at P1 during a RESTART of P0. -/
theorem witness_FramesUnseenAndFramesHeld :
    (blocked.engine 1).state = .stretched ∧ ((restarting false).engine 0).state = .executing ∧
      (∃ r, (restarting false).restart = some r ∧ r.requester ≠ 1) ∧ CanReceive (restarting false) 1 ∧
      HostCommand.take.lenAccepted = true := by
  decide

/-- A FREE unbound lock, the last and the first, one at the last generation, and a join. -/
theorem witness_AcquireGrantedAtOnce :
    let last := lockAs 0 (fun lk => { lk with gen := 65535 }) two
    let join := lockAs 31 (fun lk => { lk with state := .shared, gen := 5, holders := [holder 1 .shared 5] }) two
    (CarriedOut two 0 7 (.acquire (argByte (31 : LockId)) Mode.shared.code WaitMode.tryNow.code 0) ∧
      (two.lock 31).Sound 31 ∧ (two.lock 31).sharedAllowed = true ∧ (two.lock 31).group = none ∧
      (two.lock 31).state = .free) ∧
    (CarriedOut two 0 7 (.acquire (argByte (0 : LockId)) Mode.exclusive.code WaitMode.block.code 0xFFFF) ∧
      (two.lock 0).Sound 0 ∧ (two.lock 0).state = .free ∧ (two.lock 0).group = none) ∧
    (CarriedOut last 0 7 (.acquire (argByte (0 : LockId)) Mode.exclusive.code WaitMode.tryNow.code 0) ∧
      (last.lock 0).Sound 0 ∧ (last.lock 0).state = .free ∧ (last.lock 0).gen = 65535) ∧
    CarriedOut join 0 7 (.acquire (argByte (31 : LockId)) Mode.shared.code WaitMode.queue.code 1) ∧
      (join.lock 31).Sound 31 ∧ (join.lock 31).state = .shared ∧ (join.lock 31).queue = [] ∧
      (0 : Port) ∉ (join.lock 31).holders.map Holder.port := by
  dsimp only
  and_intros <;> first | decide | exact soundOf (by decide) (by decide) (by decide) (by decide)

/-- A FREE bound lock. -/
theorem witness_AcquireOnFreeBoundLockStartsHandover :
    CarriedOut bound 1 7 (.acquire (argByte (5 : LockId)) 1 WaitMode.block.code 9) ∧ (bound.lock 5).Sound 5 ∧
      (bound.lock 5).state = .free ∧ (bound.lock 5).group = some 0 := by
  and_intros <;> first | decide | exact soundOf (by decide) (by decide) (by decide) (by decide)

/-- A lock that another port holds, a FAULTED lock, and a SHARED request behind a waiter. -/
theorem witness_AcquireWaitsByItsWaitMode :
    let held := lockAs 3 (heldBy 1) two
    let faulted := lockAs 5 (fun lk => { lk with state := .faulted }) bound
    let behind := lockAs 3 (fun lk =>
      { lk with state := .shared, gen := 5, holders := [holder 1 .shared 5], queue := [waiter 2 .exclusive] }) two
    (CarriedOut held 0 7 (.acquire (argByte (3 : LockId)) Mode.exclusive.code WaitMode.block.code 0) ∧
      (held.lock 3).Sound 3 ∧ (0 : Port) ∉ (held.lock 3).holders.map Holder.port ∧ (held.lock 3).queue = [] ∧
      (held.lock 3).target = none ∧ (held.lock 3).state = .exclusive) ∧
    (CarriedOut faulted 1 7 (.acquire (argByte (5 : LockId)) Mode.exclusive.code WaitMode.tryNow.code 0) ∧
      (faulted.lock 5).Sound 5 ∧ (faulted.lock 5).holders = [] ∧ (faulted.lock 5).queue = [] ∧
      (faulted.lock 5).target = none ∧ (faulted.lock 5).state = .faulted) ∧
    CarriedOut behind 0 7 (.acquire (argByte (3 : LockId)) Mode.shared.code WaitMode.queue.code 1) ∧
      (behind.lock 3).Sound 3 ∧ (0 : Port) ∉ (behind.lock 3).holders.map Holder.port ∧
      (0 : Port) ∉ (behind.lock 3).queue.map Waiter.port ∧ (behind.lock 3).queue ≠ [] := by
  dsimp only
  and_intros <;> first | decide | exact soundOf (by decide) (by decide) (by decide) (by decide)

/-- The sole holder; one of two; and one of two with an UPGRADE entry of the other before it. -/
theorem witness_AcquireUpgrades :
    let sole := lockAs 3 (fun lk => { lk with state := .shared, gen := 5, holders := [holder 0 .shared 5] }) two
    let pair := lockAs 3 sharedByTwo two
    let late := lockAs 3 (fun lk => queueOf [waiter 1 .upgrade] (sharedByTwo lk)) two
    (CarriedOut sole 0 7 (.acquire (argByte (3 : LockId)) 1 WaitMode.tryNow.code 0) ∧ (sole.lock 3).Sound 3 ∧
      (sole.lock 3).state = .shared ∧ (0 : Port) ∈ (sole.lock 3).holders.map Holder.port ∧ (sole.lock 3).queue = [] ∧
      (sole.lock 3).holders.length = 1) ∧
    (CarriedOut pair 0 7 (.acquire (argByte (3 : LockId)) 1 WaitMode.block.code 0) ∧ (pair.lock 3).Sound 3 ∧
      (pair.lock 3).queue = [] ∧ (pair.lock 3).holders.length = 2) ∧
    CarriedOut late 0 7 (.acquire (argByte (3 : LockId)) 1 WaitMode.queue.code 0) ∧ (late.lock 3).Sound 3 ∧
      (0 : Port) ∉ (late.lock 3).queue.map Waiter.port ∧ ∃ x ∈ (late.lock 3).queue, x.req = .upgrade := by
  dsimp only
  and_intros <;> first | decide | exact soundOf (by decide) (by decide) (by decide) (by decide)

/-- MODE at L0 and at a bound lock, HELD, and DUPLICATE in the queue and as target. -/
theorem witness_AcquireRefusals :
    let held := lockAs 3 (heldBy 0) two
    let queued := lockAs 3 (fun lk => queueOf [waiter 1 .exclusive] (heldBy 0 lk)) two
    CarriedOut two 0 7 (.acquire (argByte (0 : LockId)) Mode.shared.code WaitMode.queue.code 0) ∧
      CarriedOut bound 1 7 (.acquire (argByte (5 : LockId)) Mode.shared.code WaitMode.queue.code 0) ∧
      (bound.lock 5).group ≠ none ∧
      CarriedOut held 0 7 (.acquire (argByte (3 : LockId)) Mode.shared.code WaitMode.queue.code 0) ∧
      (held.lock 3).holderOf 0 = some (holder 0 .exclusive 5) ∧
      CarriedOut queued 1 7 (.acquire (argByte (3 : LockId)) Mode.exclusive.code WaitMode.queue.code 0) ∧
      (1 : Port) ∈ (queued.lock 3).queue.map Waiter.port ∧
      CarriedOut making 1 7 (.acquire (argByte (5 : LockId)) Mode.exclusive.code WaitMode.queue.code 0) ∧
      (1 : Port) ∈ ((making.lock 5).target.map Waiter.port).toList := by
  and_intros <;> decide

/-- An UPGRADE head with an entry behind it; an UPGRADE entry and another to place. -/
theorem witness_NewWaiterTakesItsPlaceByPriority :
    (∀ x ∈ [waiter 0 .upgrade, waiter 1 .exclusive].tail, x.req ≠ .upgrade) ∧ (waiter 2 .shared).req ≠ .upgrade ∧
      (waiter 2 .upgrade).req = .upgrade := by
  decide

/-- Each way to tell a grant, and each line of the table of the grant pass. -/
theorem witness_GrantPassDoesOneThingAndTellsIt :
    let head := lockAs 3 (queueOf [waiter 1 .exclusive]) two
    let batch := lockAs 3 (queueOf [waiter 1 .shared, waiter 2 .shared, waiter 0 .exclusive]) two
    let sole := lockAs 3 (fun lk =>
      { lk with state := .shared, holders := [holder 1 .shared 5], queue := [waiter 1 .upgrade] }) two
    (((blocker 1 .exclusive).blocking = true ∧ (blocked.engine 1).handed = none) ∧
      (waiter 1 .exclusive).blocking = false ∧ (two.session 1).state = .opened ∧ (two.session 1).epoch = 1 ∧
      (two.session 2).state ≠ .opened ∧
      ((engineAs 1 (fun e => { e with handed := some .expired }) blocked).engine 1).handed ≠ none) ∧
    (two.lock 3).queue = [] ∧
    ((head.lock 3).queue = [waiter 1 .exclusive] ∧ (head.lock 3).state = .free ∧ (head.lock 3).group = none ∧
      (head.lock 3).holders = []) ∧
    (((lockAs 5 (queueOf [waiter 1 .exclusive]) bound).lock 5).queue = [waiter 1 .exclusive] ∧
      ((lockAs 5 (queueOf [waiter 1 .exclusive]) bound).lock 5).group = some 0) ∧
    ((batch.lock 3).queue = [waiter 1 .shared, waiter 2 .shared] ++ [waiter 0 .exclusive] ∧ (batch.lock 3).state = .free) ∧
    ((sole.lock 3).state = .shared ∧ (sole.lock 3).holders = [holder 1 .shared 5] ∧
      (sole.lock 3).queue = [waiter 1 .upgrade]) ∧
    ((blocked.lock 3).state = .exclusive ∧ (blocked.lock 3).queue = [blocker 1 .exclusive]) := by
  decide

/-- A holder that stays, none that stays at an unbound lock, and none at a bound one. -/
theorem witness_ReleasePathOfRemovedHolders :
    let pair := lockAs 3 sharedByTwo two
    let steered := lockAs 5 (heldBy 1) bound
    ((pair.lock 3).Sound 3 ∧ (pair.lock 3).holders.filter (fun h => decide (h.port ∉ [(0 : Port)])) ≠ []) ∧
    ((pair.lock 3).holders.filter (fun h => decide (h.port ∉ [(0 : Port), 1])) = [] ∧ (pair.lock 3).group = none) ∧
    (steered.lock 5).Sound 5 ∧ (steered.lock 5).holders.filter (fun h => decide (h.port ∉ [(1 : Port)])) = [] ∧
      (steered.lock 5).group = some 0 ∧ (steered.lock 5).state = .exclusive := by
  dsimp only
  and_intros <;> first | decide | exact soundOf (by decide) (by decide) (by decide) (by decide)

/-- A lock above 31, no holding, another generation, and the holding's own. -/
theorem witness_ReleaseChecksAndReleases :
    let held := lockAs 31 (heldBy 0) two
    CarriedOut held 0 7 (.release 32 5) ∧ CarriedOut held 1 7 (.release 31 5) ∧ (held.lock 31).holderOf 1 = none ∧
      CarriedOut held 0 7 (.release 31 4) ∧ CarriedOut held 0 7 (.release 31 5) ∧
      (held.lock 31).holderOf 0 = some (holder 0 .exclusive 5) := by
  and_intros <;> decide

/-- CANCEL with no wait, from the queue and from the target; DOWNGRADE in each of its checks. -/
theorem witness_CancelAndDowngrade :
    let queued := lockAs 3 (fun lk => queueOf [waiter 1 .exclusive] (heldBy 0 lk)) two
    (CarriedOut queued 0 7 (.cancel (argByte (3 : LockId))) ∧ (queued.lock 3).Sound 3 ∧
      (0 : Port) ∉ (queued.lock 3).queue.map Waiter.port) ∧
    (CarriedOut queued 1 7 (.cancel (argByte (3 : LockId))) ∧ (1 : Port) ∈ (queued.lock 3).queue.map Waiter.port) ∧
    (CarriedOut making 1 7 (.cancel (argByte (5 : LockId))) ∧ (making.lock 5).Sound 5 ∧
      (1 : Port) ∈ ((making.lock 5).target.map Waiter.port).toList ∧ (making.lock 5).group = some 0) ∧
    (CarriedOut authority 0 7 (.downgrade (argByte (0 : LockId)) 5) ∧ (authority.lock 0).Sound 0) ∧
    (CarriedOut queued 1 7 (.downgrade (argByte (3 : LockId)) 5) ∧ (queued.lock 3).holderOf 1 = none) ∧
    (CarriedOut queued 0 7 (.downgrade (argByte (3 : LockId)) 4) ∧
      (queued.lock 3).holderOf 0 = some (holder 0 .exclusive 5)) ∧
    CarriedOut queued 0 7 (.downgrade (argByte (3 : LockId)) 5) ∧ (queued.lock 3).sharedAllowed = true ∧
      (queued.lock 3).group = none := by
  dsimp only
  and_intros <;> first | decide | exact soundOf (by decide) (by decide) (by decide) (by decide)

/-- A lock without and with holders. -/
theorem witness_ForceReleaseRemovesEveryHolder :
    CarriedOut authority 0 7 (.forceRelease (argByte (31 : LockId))) ∧ (authority.lock 31).holders = [] ∧
      CarriedOut (lockAs 1 sharedByTwo authority) 0 7 (.forceRelease (argByte (1 : LockId))) ∧
      ((lockAs 1 sharedByTwo authority).lock 1).holders ≠ [] := by
  and_intros <;> decide

/-- QUERY of a lock with holders and waiters by a CLOSED port; HOLDINGS. -/
theorem witness_QueryAndHoldingsReportLocks :
    let busy := lockAs 3 (fun lk => queueOf [waiter 2 .exclusive] (sharedByTwo lk)) two
    CarriedOut busy 3 7 (.query (argByte (3 : LockId))) ∧ (busy.lock 3).Sound 3 ∧ CarriedOut busy 0 7 .holdings := by
  dsimp only
  and_intros <;> first | decide | exact soundOf (by decide) (by decide) (by decide) (by decide)

/-- STATUS with and without an authority; QUERY_ROUTE. -/
theorem witness_StatusAndQueryRouteReport :
    CarriedOut two 0 7 .status ∧ (∀ q, two.hasAuthority q = false) ∧ CarriedOut authority 3 7 .status ∧
      (authority.lock 0).holders.map Holder.port = [0] ∧ authority.hasAuthority 0 = true ∧
      CarriedOut making 3 7 (.queryRoute (argByte (3 : GroupId))) := by
  and_intros <;> decide

/-- An empty queue, a cell that keeps a reference and one that is freed. -/
theorem witness_TakeAndPeekReturnTheOldestMessage :
    let last := mailed.setCell 0 (some { message with refs := 1 })
    CarriedOut two 1 7 .take ∧ CarriedOut two 1 7 .peek ∧ (two.inbound 1).queue = [] ∧
      CarriedOut mailed 1 7 .take ∧ CarriedOut mailed 1 7 .peek ∧ (mailed.inbound 1).queue = [0] ∧
      mailed.cell 0 = some message ∧ CarriedOut last 1 7 .take ∧ last.cell 0 = some { message with refs := 1 } := by
  and_intros <;> decide

set_option maxRecDepth 4000 in
/-- A sound pool with a cell in two queues; a FLUSH; and the flush step of a teardown. -/
theorem witness_FlushEmptiesOneQueue :
    mailed.PoolSound ∧ CarriedOut mailed 1 7 .flush ∧
      (sessionAs 1 (ending .flush 0 false) mailed).teardownStep 1 = some { step := .flush, locks := 0, taken := false } := by
  and_intros <;> decide

set_option maxRecDepth 4000 in
/-- A SEND to one port, with the first and with the last number, and a broadcast; each refusal. -/
theorem witness_SendFillsACellOrIsRefused :
    let wraps := two.setInbound 0 { two.inbound 0 with number := 65535 }
    let full := two.setInbound 1 { two.inbound 1 with quota := 1, queue := [0] }
    let capped := mailed.setInbound 0 { mailed.inbound 0 with sendCap := 1 }
    let used : State := { two with cells := Vector.replicate 64 (some { message with source := 1 }) }
    (CarriedOut two 0 7 (.send (argByte (1 : Port)) 5 (boolByte true) []) ∧ (two.session 1).state = .opened ∧
      (two.inbound 1).queue.length < (two.inbound 1).quota.toNat ∧
      two.outstanding 0 < (two.inbound 0).sendCap.toNat ∧ 0 < two.poolFree) ∧
    (CarriedOut wraps 0 7 (.send (argByte (1 : Port)) 5 (boolByte true) []) ∧ (wraps.inbound 0).number = 65535 ∧
      (wraps.session 1).state = .opened ∧ (wraps.inbound 1).queue.length < (wraps.inbound 1).quota.toNat ∧
      wraps.outstanding 0 < (wraps.inbound 0).sendCap.toNat ∧ 0 < wraps.poolFree) ∧
    (CarriedOut two 0 7 (.send 0xFF 5 (boolByte false) [1, 2]) ∧
      (allPorts.filter fun q => decide (q ≠ 0 ∧ (two.session q).state = .opened)) = [1]) ∧
    (CarriedOut two 0 7 (.send (argByte (3 : Port)) 5 (boolByte true) []) ∧ (two.session 3).state ≠ .opened) ∧
    (CarriedOut full 0 7 (.send (argByte (1 : Port)) 5 (boolByte true) []) ∧
      (full.inbound 1).quota.toNat ≤ (full.inbound 1).queue.length) ∧
    (CarriedOut capped 0 7 (.send (argByte (1 : Port)) 5 (boolByte true) []) ∧
      (capped.inbound 0).sendCap.toNat ≤ capped.outstanding 0) ∧
    CarriedOut used 0 7 (.send (argByte (1 : Port)) 5 (boolByte true) []) ∧ used.outstanding 0 = 0 ∧ used.poolFree = 0 := by
  and_intros <;> decide

/-- A post dropped in a RESTART, at a CLOSED port, stored at 15 records, and lost at 16; the ATTN line with each of its three
reasons, with none, and in a RESTART that the notice block has and has not taken. -/
theorem witness_PostsAndTheAttentionLine :
    let mail := sessionAs 1 (fun x => { x with threshold := 1 }) mailed
    let records := fun n => two.setNoticeQueue 1 { records := List.replicate n (.waitExpired 3), lost := false }
    (∃ r ∈ (restarting true).restart, r.noticeTaken = true) ∧ (two.session 2).state ≠ .opened ∧
      (∀ r ∈ two.restart, r.noticeTaken = false) ∧ (two.session 1).state = .opened ∧
      ((records 15).noticeQueue 1).records.length < 16 ∧ 16 ≤ ((records 16).noticeQueue 1).records.length ∧
      ({ records 16 with sessionPosts := [post 1] } : State).sessionPosts = post 1 :: [] ∧
      (mail.session 1).threshold.toNat ≤ (mail.inbound 1).queue.length ∧ mail.attn 1 = true ∧
      (sessionAs 1 (fun x => { x with noticeAttn := true }) (records 1)).attn 1 = true ∧
      (two.setNoticeQueue 1 { records := [], lost := true }).attn 1 = true ∧ two.attn 1 = false ∧
      (∃ r ∈ ({ mail with restart := (restarting true).restart } : State).restart, r.noticeTaken = true) ∧
      (∀ r ∈ ({ mail with restart := (restarting false).restart } : State).restart, r.noticeTaken = false) := by
  decide

set_option maxRecDepth 4000 in
/-- An empty queue and one with a record of each kind. -/
theorem witness_TakeNoticeReturnsTheHead :
    let records : List Notice := [.granted 31 .shared 0xFFFF, .waitExpired 0, .waitFailed 5, .revoked 3 1 .forced,
      .receipt 1 2 .taken, .peerOpened 2 1, .peerEnded 3 255 .lapsed]
    let s := fun n => two.setNoticeQueue 0 { records := records.drop n, lost := true }
    CarriedOut two 0 7 .takeNotice ∧ (two.noticeQueue 0).records = [] ∧
      CarriedOut (s 0) 0 7 .takeNotice ∧ CarriedOut (s 1) 0 7 .takeNotice ∧ CarriedOut (s 2) 0 7 .takeNotice ∧
      CarriedOut (s 3) 0 7 .takeNotice ∧ CarriedOut (s 4) 0 7 .takeNotice ∧ CarriedOut (s 5) 0 7 .takeNotice ∧
      CarriedOut (s 6) 0 7 .takeNotice ∧
      (∀ n < 7, ((s n).noticeQueue 0).records.length ≤ 16 ∧ ((s n).noticeQueue 0).records ≠ []) := by
  and_intros <;> decide

/-- OPEN at the ends of its ranges, and in the other states. -/
theorem witness_OpenMakesASession :
    CarriedOut two 2 7 (.openSession 100 (argByte (3 : Prio)) 32 (boolByte true)) ∧
      CarriedOut two 2 7 (.openSession 60000 (argByte (0 : Prio)) 0 (boolByte false)) ∧ (two.session 2).state = .closed ∧
      CarriedOut two 0 7 (.openSession 100 (argByte (3 : Prio)) 32 (boolByte true)) ∧ (two.session 0).state ≠ .closed := by
  and_intros <;> decide

/-- CLOSE in CLOSED and OPEN; EXPEL of the port itself, of a CLOSED port and of an OPEN one; a lease that has reached zero, one
that has not, and one that no session holds. -/
theorem witness_TeardownBegins :
    CarriedOut two 2 7 .close ∧ (two.session 2).state = .closed ∧ CarriedOut two 0 7 .close ∧
      (two.session 0).state = .opened ∧ CarriedOut authority 0 7 (.expel (argByte (0 : Port))) ∧
      CarriedOut authority 0 7 (.expel (argByte (3 : Port))) ∧ (authority.session 3).state ≠ .opened ∧
      CarriedOut authority 0 7 (.expel (argByte (1 : Port))) ∧ (authority.session 1).state = .opened ∧
      ((sessionAs 0 (fun x => { x with lease := 0 }) two).session 0).state = .opened ∧
      ((sessionAs 0 (fun x => { x with lease := 0 }) two).session 0).lease = 0 ∧
      ((sessionAs 0 (fun x => { x with lease := 1 }) two).session 0).lease ≠ 0 ∧ (two.session 2).state ≠ .opened := by
  and_intros <;> decide

/-- Each step before its work is done, with one lock or one post missing; and a step that is done. -/
theorem witness_TeardownStepsFollowOneAnother :
    let all := BitVec.allOnes 32
    let s := fun step (locks : BitVec 32) taken => sessionAs 1 (ending step locks taken) two
    let owing : State := { s .holdings all false with lockPosts := [{ post 0 with cause := some 1 }] }
    (∃ t, ((s .holdings (all ^^^ 1) false).session 1).teardown = some t ∧ t.step = .holdings ∧ t.locks ≠ all) ∧
    (∃ t, (owing.session 1).teardown = some t ∧ t.step = .holdings ∧ ∃ x ∈ owing.lockPosts, x.cause = some 1) ∧
    (∃ t, ((s .waits 0 false).session 1).teardown = some t ∧ t.step = .waits ∧ t.locks ≠ all) ∧
    (∃ t, ((s .flush 0 false).session 1).teardown = some t ∧ t.step = .flush ∧ t.taken = false) ∧
    (∃ t, ((s .peerEnded 0 false).session 1).teardown = some t ∧ t.step = .peerEnded ∧ t.taken = false) ∧
    (∃ t, ((s .waits all false).session 1).teardown = some t ∧ t.step ≠ .finish ∧ t.stepTaken = true ∧
      ((s .waits all false).session 1).state = .ending ∧ (s .waits all false).lockPosts = [] ∧
      ∃ r ∈ ({ s .waits all false with restart := (restarting true).restart } : State).restart,
        r.takenBy t.step.next.block = true) := by
  decide

/-- The two lock steps at a lock that the port does not know, holds, waits for and is the target of. -/
theorem witness_TeardownLockSteps :
    let step := fun k (p : Port) (s : State) => sessionAs p (ending k 0 false) s
    let of := fun k => some ({ step := k, locks := 0, taken := false } : Teardown)
    ((step .holdings 0 blocked).teardownStep 0 = of .holdings ∧ (blocked.lock 3).Sound 3 ∧
      (0 : Port) ∈ (blocked.lock 3).holders.map Holder.port) ∧
    ((step .holdings 2 blocked).teardownStep 2 = of .holdings ∧ (2 : Port) ∉ (blocked.lock 3).holders.map Holder.port) ∧
    ((step .waits 2 blocked).teardownStep 2 = of .waits ∧ (2 : Port) ∉ (blocked.lock 3).queue.map Waiter.port) ∧
    ((step .waits 0 blocked).teardownStep 0 = of .waits ∧ (0 : Port) ∉ (blocked.lock 3).queue.map Waiter.port) ∧
    ((step .waits 1 blocked).teardownStep 1 = of .waits ∧ blocker 1 .exclusive ∈ (blocked.lock 3).queue) ∧
    (step .waits 1 making).teardownStep 1 = of .waits ∧ (making.lock 5).Sound 5 ∧
      waiter 1 .exclusive ∈ (making.lock 5).target ∧ (0 : GroupId) ∈ (making.lock 5).group := by
  dsimp only
  and_intros <;> first | decide | exact soundOf (by decide) (by decide) (by decide) (by decide)

/-- The fourth step; the fifth without an awaiter, with a receipt on its way, for the port itself and for an expelling port. -/
theorem witness_TeardownPeerStepAndEnd :
    let s := fun k => sessionAs 1 (ending k 0 false) two
    let awaited := fun a w => engineAs a (executing w) (sessionAs 1 (fun x => { x with awaiter := some a }) (s .finish))
    let receipt : State := { s .finish with messagePosts := [{ post 1 with notice := .receipt 0 1 .taken }] }
    (s .peerEnded).teardownStep 1 = some { step := .peerEnded, locks := 0, taken := false } ∧
      receipt.teardownStep 1 = some { step := .finish, locks := 0, taken := false } ∧
      (s .finish).teardownStep 1 = some { step := .finish, locks := 0, taken := false } ∧
      ((s .finish).session 1).awaiter = none ∧ ((s .finish).session 1).state = .ending ∧
      ((awaited 1 .ownTeardown).session 1).awaiter = some 1 ∧
      ((awaited 1 .ownTeardown).engine 1).wait = .ownTeardown ∧
      ((awaited 0 (.teardownOf 1)).session 1).awaiter = some 0 ∧
      ((awaited 0 (.teardownOf 1)).engine 0).state = .executing ∧
      ((awaited 0 (.teardownOf 1)).engine 0).wait = .teardownOf 1 := by
  decide

/-- Each range at its end, BUSY by a holder and by a waiter, and an accepted write. -/
theorem witness_SetLockAttrWritesBothAttributes :
    CarriedOut authority 0 7 (.setLockAttr 0 1 0) ∧ CarriedOut authority 0 7 (.setLockAttr 32 1 0) ∧
      CarriedOut authority 0 7 (.setLockAttr 31 2 0) ∧ CarriedOut authority 0 7 (.setLockAttr 31 0 0xFFFF) ∧
      CarriedOut (lockAs 1 sharedByTwo authority) 0 7 (.setLockAttr 1 0 0) ∧
      ((lockAs 1 sharedByTwo authority).lock 1).state = .shared ∧
      (∃ w ∈ ((lockAs 1 (fun lk => queueOf [waiter 1 .shared] (heldBy 0 lk)) authority).lock 1).queue, w.req = .shared) ∧
      CarriedOut authority 0 7 (.setLockAttr 1 1 0) := by
  and_intros <;> decide

/-- The limits at both ends of their ranges; a hand-over that no block has taken and one that lacks a single block. -/
theorem witness_SetPortLimitsReachesThreeBlocks :
    let owed : LimitsHandover := ⟨1, 0, 1, 64, 50, true, true, false⟩
    let last := engineAs 0 (executing (.portLimits owed)) authority
    CarriedOut authority 0 7 (.setPortLimits (argByte (3 : Port)) (argByte (0 : Prio)) 1 1 1) ∧ limitsInRange 1 1 1 ∧
      CarriedOut authority 0 7 (.setPortLimits (argByte (0 : Port)) (argByte (3 : Prio)) 32 64 50) ∧ limitsInRange 32 64 50 ∧
      (∃ h, (limiting.engine 0).wait = .portLimits h ∧ h.sessionTaken = false ∧ h.messageTaken = false ∧
        h.engineTaken = false) ∧
      (limiting.engine 0).state = .executing ∧ (limiting.engine 0).stageDeferred = false ∧
      (∃ h, (last.engine 0).wait = .portLimits h ∧ h.engineTaken = false) := by
  dsimp only
  and_intros <;> first | decide | exact ⟨_, rfl, by decide⟩

/-- BIND_ROUTE in each check and accepted; UNBIND_ROUTE and CLEAR_ROUTE_FAULT in each case. -/
theorem witness_BindUnbindAndClearRouteFault :
    let fault := groupAs 0 (fun g => { g with state := .fault }) (lockAs 5 (fun lk => { lk with state := .faulted }) bound)
    CarriedOut bound 0 7 (.bindRoute 4 6 1 0) ∧ CarriedOut bound 0 7 (.bindRoute 1 0 1 0) ∧
      CarriedOut bound 0 7 (.bindRoute 1 32 1 0) ∧ CarriedOut bound 0 7 (.bindRoute 1 6 0 0) ∧
      CarriedOut bound 0 7 (.bindRoute 0 6 1 0) ∧ (bound.group 0).state ≠ .unbound ∧
      CarriedOut bound 0 7 (.bindRoute 3 31 255 255) ∧ (bound.group 3).state = .unbound ∧
      (bound.lock 31).group = none ∧ (bound.lock 31).state = .free ∧ (bound.lock 31).queue = [] ∧
      CarriedOut bound 0 7 (.unbindRoute (argByte (3 : GroupId))) ∧
      CarriedOut making 0 7 (.unbindRoute (argByte (0 : GroupId))) ∧ (making.group 0).lock = some 5 ∧
      CarriedOut bound 0 7 (.unbindRoute (argByte (0 : GroupId))) ∧ (bound.lock 5).state = .free ∧
      CarriedOut fault 0 7 (.unbindRoute (argByte (0 : GroupId))) ∧ (fault.lock 5).state = .faulted ∧
      CarriedOut bound 0 7 (.clearRouteFault (argByte (0 : GroupId))) ∧ (bound.group 0).state ≠ .fault ∧
      CarriedOut fault 0 7 (.clearRouteFault (argByte (0 : GroupId))) ∧ (fault.group 0).state = .fault := by
  and_intros <;> decide

/-- RESTART with other engines IDLE, STRETCHED and waiting for their own teardown. -/
theorem witness_RestartFirstStageReachesTheEngines :
    let s := engineAs 2 (executing .ownTeardown) (engineAs 1 (stretched 3) authority)
    CarriedOut s 0 7 .restart ∧ (s.engine 3).state = .idle ∧ (s.engine 1).state = .stretched ∧
      (s.engine 2).state = .executing ∧ (s.engine 2).wait = .ownTeardown := by
  decide

/-- A RESTART that no block has taken, with a flush in flight and with a PEER_ENDED just handed on. -/
theorem witness_RestartSecondStageAtThreeBlocks :
    (sessionAs 1 (ending .flush 0 false) (restarting false)).teardownStep 1 =
        some { step := .flush, locks := 0, taken := false } ∧
      (sessionAs 1 (ending .flush 0 true) (restarting false)).teardownStep 1 =
        some { step := .peerEnded, locks := 0, taken := false } ∧
    ∃ r, (restarting false).restart = some r ∧ (∀ p, ((restarting false).engine p).stageDeferred = false) ∧
      r.sessionTaken = false ∧ r.messageTaken = false ∧ r.noticeTaken = false := by
  decide

set_option maxRecDepth 4000 in
/-- A RESTART with a bound lock in HANDOVER and with its group MAKING; and groups that do not break. -/
theorem witness_RestartSecondStageAtLocksAndGroups :
    let s : State := { making with
      restart := some { requester := 0, sessionTaken := false, lockTaken := false, messageTaken := false,
                        noticeTaken := false } }
    (∃ r, s.restart = some r ∧ r.lockTaken = false) ∧ (∀ p, (s.engine p).stageDeferred = false) ∧ s.LocksSound ∧
      (s.lock 5).group = some 0 ∧ (s.lock 5).state = .handover ∧ (s.group 0).state = .making ∧
      (s.lock 31).group = none ∧ (s.group 3).state = .unbound := by
  dsimp only
  and_intros <;> first | decide | exact locksSoundOf (by decide) (by decide) (by decide) (by decide)

/-- A RESTART at its third stage with a held frame and a CLOSE overtaken. -/
theorem witness_RestartThirdStageReleasesTheEngines :
    let s : State := engineAs 2 (executing .restartEnd) (engineAs 1 (executing (.heldFrame .take))
      { restarting true with sessions := State.reset.sessions })
    (∃ r, s.restart = some r ∧ r.sessionTaken = true ∧ r.lockTaken = true ∧ r.messageTaken = true ∧ r.noticeTaken = true) ∧
      s.RestartSound ∧ (∀ p, (s.engine p).stageDeferred = false) ∧ (∀ p, (s.engine p).memory = none) ∧
      (s.engine 1).state = .executing ∧ (s.engine 1).wait = .heldFrame .take ∧
      HostCommand.take.passesSession .closed = false ∧ (s.engine 2).wait = .restartEnd ∧ (s.engine 3).state ≠ .executing := by
  decide

/-- Two held OPEN frames at the ends of their ranges; a held STATUS without and with an authority; a held CLOSE, QUERY,
QUERY_ROUTE and a lock number out of range. -/
theorem witness_HeldFramesAreExecutedAtTheThirdStage :
    let base : State := { restarting true with sessions := State.reset.sessions, locks := State.reset.locks }
    let held := fun a b (u : State) => engineAs 2 (executing (.heldFrame b)) (engineAs 1 (executing (.heldFrame a)) u)
    let s := held (.openSession 100 (argByte (3 : Prio)) 32 (boolByte true))
      (.openSession 60000 (argByte (0 : Prio)) 0 (boolByte false)) base
    let u := held .status .close base
    let v := held .status (.query 32) (lockAs 0 (heldBy 0) base)
    let w := held (.query (argByte (31 : LockId))) (.queryRoute (argByte (3 : GroupId))) base
    (∃ r, s.restart = some r ∧ r.sessionTaken = true ∧ r.lockTaken = true ∧ r.messageTaken = true ∧ r.noticeTaken = true) ∧
      s.RestartSound ∧ (∀ p, (s.engine p).stageDeferred = false) ∧ (∀ p, (s.engine p).memory = none) ∧
      (s.engine 1).state = .executing ∧ (s.engine 2).state = .executing ∧
      (s.engine 1).wait = .heldFrame (.openSession 100 (argByte (3 : Prio)) 32 (boolByte true)) ∧
      (s.engine 2).wait = .heldFrame (.openSession 60000 (argByte (0 : Prio)) 0 (boolByte false)) ∧
      u.RestartSound ∧ (∀ p, (u.engine p).memory = none) ∧ (u.engine 1).wait = .heldFrame .status ∧
      (u.engine 2).wait = .heldFrame .close ∧ (∀ q, u.hasAuthority q = false) ∧
      v.RestartSound ∧ (v.lock 0).holders.map Holder.port = [0] ∧ v.hasAuthority 0 = true ∧
      (v.engine 2).wait = .heldFrame (.query 32) ∧ (HostCommand.query 32).passesSession .closed = true ∧
      (HostCommand.query 32).inRange 2 = false ∧ w.RestartSound ∧
      (w.engine 1).wait = .heldFrame (.query (argByte (31 : LockId))) ∧
      (w.engine 2).wait = .heldFrame (.queryRoute (argByte (3 : GroupId))) := by
  decide

/-- An engine in each state that a condition finds. -/
theorem witness_BusConditionsMoveTheEngine :
    (two.engine 0).Sound ∧ (two.engine 0).state = .idle ∧ (blocked.engine 1).Sound ∧
      ((after (.linkRefusal 0 (.opened [7])) two).engine 0).Sound ∧ ((after (.linkRefusal 0 (.opened [7])) two).engine 0).frame ≠ [] ∧
      ((after (.readTransaction 0 (.opened 1) false) two).engine 0).Sound ∧
      ((after (.readTransaction 0 (.opened 1) false) two).engine 0).state = .sending ∧
      ((after (.readTransaction 0 (.opened 1) true) two).engine 0).Sound ∧
      ((after (.readTransaction 0 (.opened 1) true) two).engine 0).state = .ignoring := by
  and_intros <;> decide

/-- An engine that awaits an address byte, and three bytes for it; an engine in IDLE and one in IGNORING. -/
theorem witness_AddressByteOpensAWriteOrARead :
    let s := after (.busCondition 0 .start) two
    (s.engine 0).Sound ∧ (s.engine 0).state = .receiving ∧ (s.engine 0).addressed = false ∧ (s.engine 0).strap = 0 ∧
      (0x78 : Byte).toNat = 2 * (0x3C + 0) ∧ (0x79 : Byte).toNat = 2 * (0x3C + 0) + 1 ∧
      (0x77 : Byte).toNat ≠ 2 * (0x3C + 0) ∧ (two.engine 0).Sound ∧ (two.engine 0).state = .idle ∧
      ((after (.status 0 7) two).engine 0).Sound ∧ ((after (.status 0 7) two).engine 0).state = .ignoring := by
  and_intros <;> decide

/-- The longest frame at an IDLE engine. -/
theorem witness_EveryFrameIsReceivedUpToItsCheckByte :
    (two.engine 0).Sound ∧ (two.engine 0).state = .idle ∧
      (HostCommand.send 1 0 0 (List.replicate 16 5)).lenAccepted = true := by
  decide

set_option maxRecDepth 4000 in
/-- A code just behind the last one, a len of 17, and a check byte that is wrong, at engines in IDLE, RECEIVING, SENDING and
IGNORING. -/
theorem witness_LinkRefusesBadFrames :
    let ready := fun (s : State) => (s.engine 0).Sound ∧ (s.engine 0).state ≠ .executing ∧ (s.engine 0).state ≠ .stretched ∧
      (s.engine 0).addressed = false
    ready two ∧ ready (after (.busCondition 0 .start) two) ∧ ready (after (.readTransaction 0 (.opened 1) false) two) ∧
      ready (after (.status 0 7) two) ∧ (two.engine 0).state = .idle ∧
      ((after (.status 0 7) two).engine 0).state = .ignoring ∧
      (0x39 : Byte) ∉ ([0x01, 0x02, 0x03, 0x10, 0x11, 0x12, 0x13, 0x14, 0x15, 0x20, 0x21, 0x22, 0x23, 0x28, 0x30, 0x31, 0x32,
        0x33, 0x34, 0x35, 0x36, 0x37, 0x38] : List Byte) ∧
      ([7, 0x39] : List Byte) = [7] ++ [0x39] ∧ 16 < (17 : Byte).toNat ∧ HostCommand.take.lenAccepted = true ∧
      (0 : Byte) ≠ crc8 (writeAddress (two.engine 0).strap :: HostCommand.take.frameBytes 7) := by
  dsimp only
  and_intros <;> decide

/-- A read of one byte from IDLE, from RECEIVING and from IGNORING, and a read that goes on. -/
theorem witness_ReadSendsARecordThatChecks :
    1 ≤ 1 ∧ (two.engine 0).Sound ∧ (two.engine 0).state = .idle ∧
      ((after (.busCondition 0 .start) two).engine 0).Sound ∧
      ((after (.busCondition 0 .start) two).engine 0).state = .receiving ∧
      ((after (.readTransaction 0 (.opened 1) true) two).engine 0).Sound ∧
      ((after (.readTransaction 0 (.opened 1) true) two).engine 0).state = .ignoring ∧
      ((after (.readTransaction 0 (.opened 3) false) two).engine 0).Sound ∧
      ((after (.readTransaction 0 (.opened 3) false) two).engine 0).snapshot = some (Record.noRecord, 3) := by
  and_intros <;> decide

/-- The timeout in each state that has a transaction, with the timer running, and with the timer stopped. -/
theorem witness_BusTimeoutAbandonsTheTransaction :
    let ready := fun (s : State) (st : EngineState) =>
      (s.engine 0).Sound ∧ (s.engine 0).state = st ∧ (s.engine 0).busTimer ≠ none
    ready (after (.busCondition 0 .start) two) .receiving ∧
      ready (after (.readTransaction 0 (.opened 1) false) two) .sending ∧
      ready (after (.readTransaction 0 (.opened 1) true) two) .ignoring ∧
      ((engineAs 0 (fun e => { e with state := .receiving }) two).engine 0).Sound ∧
      ((engineAs 0 (fun e => { e with state := .receiving }) two).engine 0).busTimer = none ∧ (two.engine 0).Sound ∧
      (two.engine 0).state = .idle := by
  dsimp only
  and_intros <;> decide

/-- An entry with and without hold remaining; a deadline of a blocking entry, of another, and of one whose session is gone. -/
theorem witness_LockTimersExpire :
    let limited := lockAs 3 (fun lk => { heldBy 0 lk with holders := [{ holder 0 .exclusive 5 with hold := some 0 }] }) two
    let late := fun p : Port => { waiter p .exclusive with deadline := some 0 }
    let queued := lockAs 3 (fun lk => queueOf [late 1, late 2] (heldBy 0 lk)) two
    ((limited.lock 3).holderOf 0).bind Holder.hold = some 0 ∧ (blocked.lock 3).holderOf 0 = some (holder 0 .exclusive 5) ∧
      (blocked.lock 3).holderOf 1 = none ∧ blocker 1 .exclusive ∈ (blocked.lock 3).queue ∧
      (blocked.engine 1).handed = none ∧ late 1 ∈ (queued.lock 3).queue ∧ late 2 ∈ (queued.lock 3).queue ∧
      ((queued.lock 3).queue.map Waiter.port).Nodup ∧ (queued.session 2).state ≠ .opened := by
  decide

/-- The limit of a stretch; the claim with the entry in the queue, as target, and gone; an ending, before and in a RESTART. -/
theorem witness_StretchEndsByLimitOrEnding :
    let claim := fun (l : LockId) (s : State) => engineAs 1 (fun e => { e with limitClaim := some l }) s
    let target := engineAs 1 (stretched 5)
      (lockAs 5 (fun lk => { lk with target := some { waiter 1 .exclusive with blocking := true } }) making)
    ((blocked.engine 1).state = .stretched ∧ (blocked.engine 1).stretchTimer.isSome = true) ∧
    (((claim 3 blocked).engine 1).limitClaim = some 3 ∧ ((claim 3 blocked).lock 3).Sound 3 ∧
      blocker 1 .exclusive ∈ ((claim 3 blocked).lock 3).queue) ∧
    (((claim 5 target).engine 1).limitClaim = some 5 ∧ ((claim 5 target).lock 5).Sound 5 ∧
      ((claim 5 target).lock 5).target = some { waiter 1 .exclusive with blocking := true }) ∧
    (((claim 4 two).engine 1).limitClaim = some 4 ∧ ((claim 4 two).lock 4).Sound 4 ∧
      ((claim 4 two).lock 4).blocks 1 = false) ∧
    ((engineAs 1 (fun e => { e with handed := some .expired, abortEndings := true }) blocked).engine 1).handed =
      some .expired := by
  dsimp only
  and_intros <;> first | decide | exact soundOf (by decide) (by decide) (by decide) (by decide)

/-- Each kind of order at the head. -/
theorem witness_OrdersAreTakenAtTheGroup :
    ((groupAs 0 (fun g => { g with orders := [.breakRoute] }) making).group 0).orders = .breakRoute :: [] ∧
      (making.group 0).state = .making ∧
      ((groupAs 0 (fun g => { g with orders := [.makeRoute 3] }) bound).group 0).orders = .makeRoute 3 :: [] ∧
      (bound.group 0).state = .broken := by
  decide

/-- Each timer in its state, the route confirmed or not. -/
theorem witness_GroupTimersEnd :
    let fault := groupAs 0 (fun g => { g with state := .fault, clearing := true, timer := .guardTime 0 }) bound
    let settling := fun c => groupAs 0 (fun g => { g with state := .making, timer := .settleTime 0, confirmMs := c }) bound
    (fault.group 0).timer = .guardTime 0 ∧ (fault.group 0).clearing = true ∧ (making.group 0).timer = .confirmTime 3 ∧
      ((settling 0).group 0).confirmMs = 0 ∧ ((settling 1).group 0).confirmMs ≠ 0 ∧
      ((settling 1).group 0).senseFiltered = false ∧ ((settling 1).group 0).timer = .settleTime 0 := by
  decide

/-- A group in MAKING with EN, one in MADE with its filter running, and one that ignores SENSE. -/
theorem witness_SenseMakesAndFaultsRoutes :
    let made := groupAs 0 (fun g =>
      { g with state := .made, timer := .stopped, senseFiltered := true, senseTimer := some 1 }) making
    let high := groupAs 0 (fun g => { g with senseInput := true, senseFiltered := true }) bound
    (making.group 0).Sound ∧ (making.group 0).state = .making ∧ (making.group 0).enable = true ∧
      (making.group 0).senseFiltered = false ∧ (made.group 0).Sound ∧ (made.group 0).confirmMs ≠ 0 ∧
      (high.group 0).Sound ∧ (high.group 0).senseInput = true ∧ (bound.group 0).senseInput = false := by
  and_intros <;> decide

/-- Each report at a lock in each state that takes it. -/
theorem witness_ReportsAreTakenAtTheLock :
    let vacating := lockAs 5 (fun lk => { lk with state := .vacating, vacatingFrom := some 1 }) bound
    let steered := lockAs 5 (heldBy 1) bound
    (bound.group 0).lock = some 5 ∧ (vacating.lock 5).Sound 5 ∧ (vacating.lock 5).state = .vacating ∧
      (making.lock 5).Sound 5 ∧ (making.lock 5).target = some (waiter 1 .exclusive) ∧ (steered.lock 5).Sound 5 ∧
      (steered.lock 5).state = .exclusive ∧ (steered.lock 5).holders = [holder 1 .exclusive 5] ∧
      ((groupAs 0 (fun g => { g with reports := [.fault] }) steered).group 0).reports = .fault :: [] := by
  dsimp only
  and_intros <;> first | decide | exact soundOf (by decide) (by decide) (by decide) (by decide)

set_option maxRecDepth 8000 in
/-- A part with a blocked port, a bound lock in HANDOVER and a full message meets the premises of every invariant together. -/
theorem witness_invariants :
    let s : State := { groupAs 0 (fun _ => making.group 0) (lockAs 5 (fun _ => making.lock 5) blocked) with
                       cells := mailed.cells, inbounds := mailed.inbounds, lockPosts := [post 1]
                       pending := [.release 0 7 3 5] }
    s.LocksSound ∧ s.EnginesSound ∧ s.StretchesSound ∧ s.GroupsSound ∧ s.BindingsAgree ∧ s.PoolSound ∧ s.SessionsSound ∧
      s.RestartSound ∧ s.LeasesOutlastStretches ∧ s.GuardedPostsFit ∧ s.lockPosts ≠ [] ∧ (s.engine 1).state = .stretched ∧ (s.session 1).state = .opened ∧
      s.resetNext = false ∧ (s.lock 5).state = .handover ∧ (∃ t, step s = .next t) := by
  refine ⟨locksSoundOf ?_ ?_ ?_ ?_, ?_⟩
  all_goals first
    | decide
    | and_intros <;> first | decide | exact ⟨_, rfl⟩

end Sys2Proof.Tests
end

section
/-! The records of the part right after RESET, and the statement about them (R24, R81, R145). -/

namespace Sys2Proof.Machine

/-! ### The records of the starting state -/

@[simp] theorem State.session_reset (p : Port) : State.reset.session p = Session.reset := by
  simp [State.session, State.reset]
@[simp] theorem State.lock_reset (l : LockId) : State.reset.lock l = LockRec.reset l := by
  simp [State.lock, State.reset]
@[simp] theorem State.group_reset (g : GroupId) : State.reset.group g = Group.reset := by
  simp [State.group, State.reset]
@[simp] theorem State.noticeQueue_reset (p : Port) : State.reset.noticeQueue p = NoticeQueue.reset := by
  simp [State.noticeQueue, State.reset]

/-! ### What the authority and the ATTN lines rest on -/

/-- Configuration authority is a hold of L0, so nobody has it while L0 has no holder (R147). -/
theorem State.authorityHolder_eq_none {s : State} (h : (s.lock 0).holders = []) : s.authorityHolder = none := by
  simp [State.authorityHolder, State.hasAuthority, h]

/-- ATTN is asserted for an OPEN session only (R139). -/
theorem State.attn_eq_false {s : State} {p : Port} (h : (s.session p).state ≠ .opened) : s.attn p = false := by
  simp [State.attn, attnCondition, h]

/-! ### The state that RESET leaves -/

/-- The RESET command and the starting state differ in the straps of the engines, the counter of free samples and the queue of
commands only. -/
theorem exec_reset_eq (as1 as0 : Bool) (s : State) :
    exec (.reset as1 as0) s = .next { State.reset with
      engines := Vector.replicate 4 { Engine.reset with strap := strapValue as1 as0 }
      sclSample := s.sclSample
      pending := s.pending } := rfl

/-- Outside the engines, the counter of free samples and the queue of commands, a part right after RESET is the starting state,
whether a run starts there or the RESET command led there. -/
theorem exists_eq_reset_with {u : State} (h : u = State.reset ∨ ∃ as1 as0 s, exec (.reset as1 as0) s = .next u) :
    ∃ engines sclSample pending,
      u = { State.reset with engines := engines, sclSample := sclSample, pending := pending } := by
  obtain rfl | ⟨as1, as0, s, hs⟩ := h
  · exact ⟨_, _, _, rfl⟩
  · rw [exec_reset_eq] at hs
    injection hs with hu
    exact ⟨_, _, _, hu.symm⟩

/-- Settles O3: no record the statement names is among those in which a part right after RESET may differ from the starting
state; the authority and the ATTN lines follow from L0 without holders and from the CLOSED sessions. -/
theorem resetStateHoldsTheStatedValues : Obligations.ResetStateHoldsTheStatedValues := by
  intro u hu
  obtain ⟨engines, sclSample, pending, hreset⟩ := exists_eq_reset_with hu
  have hlock (l : LockId) : u.lock l = LockRec.reset l := hreset ▸ State.lock_reset l
  have hgroup (g : GroupId) : u.group g = Group.reset := hreset ▸ State.group_reset g
  have hqueue (p : Port) : u.noticeQueue p = NoticeQueue.reset := hreset ▸ State.noticeQueue_reset p
  have hsession (p : Port) : u.session p = Session.reset := hreset ▸ State.session_reset p
  have hclosed (p : Port) : (u.session p).state = .closed := by rw [hsession]; rfl
  have hposts : u.lockPosts = [] ∧ u.sessionPosts = [] ∧ u.messagePosts = [] := hreset ▸ ⟨rfl, rfl, rfl⟩
  refine ⟨hlock, State.authorityHolder_eq_none (by rw [hlock]; rfl), fun g => ?_, fun p => ?_, hposts⟩
  · rw [hgroup]
    and_intros <;> rfl
  · have hattn : u.attn p = false := State.attn_eq_false (by simp [hclosed])
    rw [hqueue]
    exact ⟨rfl, rfl, hattn, hclosed p⟩

end Sys2Proof.Machine
end

section
/-! How a grant is told, and the one thing that the grant pass does (R34 to R36, R40, R44, R50). -/

namespace Sys2Proof.Machine

/-! ### Telling a grant -/

section
variable (s : State) (l : LockId) {w : Waiter} (m : Mode) (gen : Word16) (cause : Option Port)

/-- The guard of R44 and R50, as a proposition. -/
theorem State.sessionIs_iff (p : Port) (epoch : Byte) :
    s.sessionIs p epoch = true ↔ (s.session p).state = .opened ∧ (s.session p).epoch = epoch := by
  simp [State.sessionIs]

/-- The first ending handed to an engine is stored (R42). -/
theorem State.handEnding_of_none {p : Port} (h : (s.engine p).handed = none) (e : Ending) :
    s.handEnding p e = s.setEngine p { s.engine p with handed := some e } := by
  simp [State.handEnding, h]

/-- A later ending changes nothing (R42). -/
theorem State.handEnding_of_ne_none {p : Port} (h : (s.engine p).handed ≠ none) (e : Ending) : s.handEnding p e = s := by
  have hkept : ((s.engine p).handed <|> some e) = (s.engine p).handed := by
    cases hh : (s.engine p).handed with
    | none => exact absurd hh h
    | some _ => rfl
  rw [State.handEnding, hkept]
  exact State.setEngine_self s p

/-- A blocking entry's grant ends its stretched frame, ABORTED where the guard fails (R40, R44). -/
theorem State.deliverGrant_of_blocking (hw : w.blocking = true) :
    s.deliverGrant l w m gen cause =
      s.handEnding w.port (if (s.session w.port).state = .opened ∧ (s.session w.port).epoch = w.epoch then .granted m gen
        else .aborted) := by
  simp only [State.deliverGrant, hw, if_true, State.endStretch, State.sessionIs_iff]

/-- Another entry's grant is posted where the guard holds (R50). -/
theorem State.deliverGrant_of_not_blocking (hw : w.blocking = false) :
    s.deliverGrant l w m gen cause =
      if (s.session w.port).state = .opened ∧ (s.session w.port).epoch = w.epoch then
        s.postFromLocks w.port (.granted l m gen) cause
      else s := by
  simp only [State.deliverGrant, hw, Bool.false_eq_true, if_false, State.postGuarded, State.sessionIs_iff]

/-- The members of a batch are told one after the other, in queue order (R50). -/
theorem State.deliverBatch_eq_foldl (ws : List Waiter) :
    s.deliverBatch l gen cause ws = ws.foldl (fun t x => t.deliverGrant l x .shared gen cause) s := by
  induction ws generalizing s with
  | nil => rfl
  | cons w ws ih => rw [State.deliverBatch, List.foldl_cons, ih]

end

/-! ### What the pass chooses (R34, table) -/

section
variable {lk : LockRec} {w : Waiter} {rest : List Waiter}

/-- The batch ends at the first entry that is not SHARED (R35). -/
theorem sharedBatch_append {batch behind : List Waiter} (hbatch : ∀ x ∈ batch, x.req = .shared)
    (hbehind : ∀ x ∈ behind.head?, x.req ≠ .shared) : sharedBatch (batch ++ behind) = batch := by
  have hstop : sharedBatch behind = [] := by
    cases behind with
    | nil => rfl
    | cons x xs => simp [sharedBatch, hbehind x rfl]
  unfold sharedBatch at hstop ⊢
  rw [List.takeWhile_append_of_pos (by simpa using hbatch), hstop, List.append_nil]

theorem LockRec.pass_of_no_waiter (hq : lk.queue = []) : lk.pass = .nothing := by
  simp [LockRec.pass, hq]

theorem LockRec.pass_of_free_unbound_exclusive (hq : lk.queue = w :: rest) (hs : lk.state = .free) (hg : lk.group = none)
    (hw : w.req = .exclusive) : lk.pass = .grantHead w := by
  simp [LockRec.pass, hq, hs, hg, hw]

theorem LockRec.pass_of_free_bound_exclusive {g : GroupId} (hq : lk.queue = w :: rest) (hs : lk.state = .free)
    (hg : lk.group = some g) (hw : w.req = .exclusive) : lk.pass = .startHandover w := by
  simp [LockRec.pass, hq, hs, hg, hw]

theorem LockRec.pass_of_shared_head (hq : lk.queue = w :: rest)
    (hs : lk.state = .free ∧ lk.group = none ∨ lk.state = .shared) (hw : w.req = .shared) :
    lk.pass = .batch (sharedBatch lk.queue) := by
  obtain ⟨hs, hg⟩ | hs := hs
  · simp [LockRec.pass, hq, hs, hg, hw]
  · simp [LockRec.pass, hq, hs, hw]

theorem LockRec.pass_of_sole_holder_upgrade {h : Holder} (hq : lk.queue = w :: rest) (hs : lk.state = .shared)
    (hw : w.req = .upgrade) (hh : lk.holders = [h]) (hp : h.port = w.port) : lk.pass = .convert w := by
  simp [LockRec.pass, hq, hs, hw, hh, hp]

/-- An UPGRADE head waits while its port is not the sole holder. -/
theorem LockRec.pass_of_upgrade_not_sole (hq : lk.queue = w :: rest) (hs : lk.state = .shared) (hw : w.req = .upgrade)
    (hh : ∀ h, lk.holders = [h] → h.port ≠ w.port) : lk.pass = .nothing := by
  simp only [LockRec.pass, hq, hs, hw]
  split
  · next h hsole => exact if_neg (hh h hsole)
  · rfl

/-- At a FREE lock an UPGRADE head, and at a bound one a SHARED head too, is left waiting. -/
theorem LockRec.pass_of_free_not_grantable (hq : lk.queue = w :: rest) (hs : lk.state = .free)
    (hw : w.req = .upgrade ∨ w.req = .shared ∧ lk.group ≠ none) : lk.pass = .nothing := by
  obtain hw | ⟨hw, hg⟩ := hw
  · simp [LockRec.pass, hq, hs, hw]
  · obtain ⟨g, hg⟩ := Option.ne_none_iff_exists'.mp hg
    simp [LockRec.pass, hq, hs, hw, hg]

theorem LockRec.pass_of_shared_exclusive (hq : lk.queue = w :: rest) (hs : lk.state = .shared) (hw : w.req = .exclusive) :
    lk.pass = .nothing := by
  simp [LockRec.pass, hq, hs, hw]

/-- Outside FREE and SHARED no waiter is granted. -/
theorem LockRec.pass_of_neither_free_nor_shared (hfree : lk.state ≠ .free) (hshared : lk.state ≠ .shared) :
    lk.pass = .nothing := by
  cases hq : lk.queue with
  | nil => exact LockRec.pass_of_no_waiter hq
  | cons w rest => cases hs : lk.state <;> simp_all [LockRec.pass]

/-! ### The grant step's holders -/

/-- The grant step at a lock where no port but the granted one holds leaves it the sole holder (R5). -/
theorem LockRec.grant_of_no_other_holder {m : Mode} {p : Port} (h : ∀ x ∈ lk.holders, x.port = p) :
    lk.grant m [p] =
      { lk with state := heldState m, holders := [lk.newHolder m p], gen := nextGen lk.gen } := by
  have hnone : lk.holders.filter (fun x => decide (x.port ∉ [p])) = [] := by simpa using h
  simp only [LockRec.grant, hnone, List.nil_append, List.map_cons, List.map_nil]

/-- The grant step to ports that hold nothing yet keeps every holder (R5). -/
theorem LockRec.grant_of_new_ports {m : Mode} {ports : List Port} (h : ∀ x ∈ lk.holders, x.port ∉ ports) :
    lk.grant m ports =
      { lk with state := heldState m, holders := lk.holders ++ ports.map (lk.newHolder m), gen := nextGen lk.gen } := by
  have hall : lk.holders.filter (fun x => decide (x.port ∉ ports)) = lk.holders := by simpa using h
  rw [LockRec.grant, hall]

end

/-! ### What the pass then does -/

section
variable {s : State} {l : LockId} (cause : Option Port) {w : Waiter} {rest : List Waiter}

/-- The pass carries out what it has chosen. -/
theorem State.grantPass_of_pass {a : PassAction} (h : (s.lock l).pass = a) :
    s.grantPass l cause =
      (s.setLock l ((s.lock l).afterPass a)).tellPass l (nextGen (s.lock l).gen) cause a := by
  subst h
  rfl

theorem State.grantPass_of_nothing (h : (s.lock l).pass = .nothing) : s.grantPass l cause = s := by
  rw [State.grantPass_of_pass cause h]
  exact State.setLock_self s l

/-- The head is granted EXCLUSIVE, at a FREE lock or by conversion, and becomes the sole holder. -/
theorem State.grantPass_of_exclusive_grant (h : (s.lock l).pass = .grantHead w ∨ (s.lock l).pass = .convert w)
    (hq : (s.lock l).queue = w :: rest) (hh : ∀ x ∈ (s.lock l).holders, x.port = w.port) :
    s.grantPass l cause = (s.setLock l
      { s.lock l with
        state := .exclusive, gen := nextGen (s.lock l).gen, queue := rest
        holders := [(s.lock l).newHolder .exclusive w.port] }).deliverGrant l w .exclusive (nextGen (s.lock l).gen) cause := by
  have hgrant := LockRec.grant_of_no_other_holder (m := .exclusive) hh
  obtain h | h := h <;>
    rw [State.grantPass_of_pass cause h, State.tellPass, LockRec.afterPass, hgrant, hq, List.tail_cons, heldState]

/-- A handover begins toward the head, whose deadline is discarded, and a make order goes out (R36). -/
theorem State.grantPass_of_startHandover {g : GroupId} (h : (s.lock l).pass = .startHandover w)
    (hq : (s.lock l).queue = w :: rest) (hg : (s.lock l).group = some g) :
    s.grantPass l cause = (s.setLock l
      { s.lock l with state := .handover, queue := rest, target := some { w with deadline := none } }).setGroup g
      { s.group g with orders := (s.group g).orders ++ [.makeRoute w.port] } := by
  rw [State.grantPass_of_pass cause h]
  simp [LockRec.afterPass, State.tellPass, State.sendOrder, hq, hg]

/-- A batch of ports that hold nothing joins the holders in one grant step (R35). -/
theorem State.grantPass_of_batch {batch behind : List Waiter} (h : (s.lock l).pass = .batch batch)
    (hq : (s.lock l).queue = batch ++ behind) (hh : ∀ x ∈ (s.lock l).holders, x.port ∉ batch.map Waiter.port) :
    s.grantPass l cause = batch.foldl (fun t x => t.deliverGrant l x .shared (nextGen (s.lock l).gen) cause) (s.setLock l
      { s.lock l with
        state := .shared, gen := nextGen (s.lock l).gen, queue := behind
        holders := (s.lock l).holders ++ batch.map fun x => (s.lock l).newHolder .shared x.port }) := by
  rw [State.grantPass_of_pass cause h, State.tellPass, State.deliverBatch_eq_foldl]
  simp only [LockRec.afterPass, LockRec.grant_of_new_ports hh, heldState, hq, List.drop_left, List.map_map,
    Function.comp_def]

end

/-- Settles O15: how a grant is told follows from the blocking flag and the guard; what the pass does is one of its five actions,
which the state of the lock and the head of its queue choose. -/
theorem grantPassDoesOneThingAndTellsIt : Obligations.GrantPassDoesOneThingAndTellsIt := by
  refine ⟨fun s l w m gen cause => ⟨fun hw hnone => ?_, fun hw hsome => ?_, fun hw hguard => ?_, fun hw hguard => ?_⟩,
    fun s l cause => ⟨fun hq => ?_, fun w rest hq => ⟨fun hs hg hw hh => ?_, fun g hs hg hw => ?_,
      fun batch behind hs hw happ hbatch hbehind hnew => ?_, fun h hs hw hh hp => ?_, fun hcases => ?_⟩⟩⟩
  · rw [State.deliverGrant_of_blocking s l m gen cause hw, State.handEnding_of_none s hnone]
  · rw [State.deliverGrant_of_blocking s l m gen cause hw, State.handEnding_of_ne_none s hsome]
  · rw [State.deliverGrant_of_not_blocking s l m gen cause hw, if_pos hguard, State.postFromLocks]
  · rw [State.deliverGrant_of_not_blocking s l m gen cause hw, if_neg hguard]
  · exact State.grantPass_of_nothing cause (LockRec.pass_of_no_waiter hq)
  · have hpass := LockRec.pass_of_free_unbound_exclusive hq hs hg hw
    exact State.grantPass_of_exclusive_grant cause (.inl hpass) hq (by simp [hh])
  · exact State.grantPass_of_startHandover cause (LockRec.pass_of_free_bound_exclusive hq hs hg hw) hq hg
  · have hpass := LockRec.pass_of_shared_head hq hs hw
    rw [happ, sharedBatch_append hbatch hbehind] at hpass
    exact State.grantPass_of_batch cause hpass happ hnew
  · have hpass := LockRec.pass_of_sole_holder_upgrade hq hs hw hh hp
    exact State.grantPass_of_exclusive_grant cause (.inr hpass) hq (by simp [hh, hp])
  · refine State.grantPass_of_nothing cause ?_
    obtain hs | hs | hs | hs | ⟨hs, hw⟩ | ⟨hs, hw | ⟨hw, hh⟩⟩ := hcases
    iterate 4 exact LockRec.pass_of_neither_free_nor_shared (by simp [hs]) (by simp [hs])
    · exact LockRec.pass_of_free_not_grantable hq hs hw
    · exact LockRec.pass_of_shared_exclusive hq hs hw
    · exact LockRec.pass_of_upgrade_not_sole hq hs hw hh

end Sys2Proof.Machine
end

section
/-! What a break order and a make order do at a group in each of its states (R64, R65, R68). -/

namespace Sys2Proof.Machine

/-! ### The effect of an order on the group's record -/

section
variable {x : Group}

/-- A route that is made or being made is broken (R65). -/
theorem Group.takeBreak_of_made_or_making (h : x.state = .made ∨ x.state = .making) : x.takeBreak = x.startBreak := by
  obtain h | h := h <;> rw [Group.takeBreak, h]

/-- Where there is no route to break, a break order changes nothing: a running break goes on with its timer (R65). -/
theorem Group.takeBreak_of_no_route (hmade : x.state ≠ .made) (hmaking : x.state ≠ .making) : x.takeBreak = x := by
  cases h : x.state with
  | made => exact absurd h hmade
  | making => exact absurd h hmaking
  | unbound | broken | breaking | fault => rw [Group.takeBreak, h]

/-- A group in BROKEN starts its route toward the port of the make order (R68). -/
theorem Group.takeMake_of_broken (q : Port) (h : x.state = .broken) :
    x.takeMake q = { x with state := .making, select := q, timer := .settleTime Config.settleTime } := by
  rw [Group.takeMake, h]

/-- Outside BROKEN a make order is set aside (R64). -/
theorem Group.takeMake_of_ne_broken (q : Port) (h : x.state ≠ .broken) : x.takeMake q = x := by
  cases hs : x.state with
  | broken => exact absurd hs h
  | unbound | breaking | making | made | fault => rw [Group.takeMake, hs]

end

/-! ### The oldest order in flight is taken (R64) -/

section
variable {s : State} {g : GroupId} {rest : List Order} {y : Group}

theorem exec_breakOrder_of_takeBreak (h : (s.group g).orders = .breakRoute :: rest)
    (hy : ({ s.group g with orders := rest } : Group).takeBreak = y) :
    exec (.breakOrder g) s = .next (s.setGroup g y) := by
  change execBreakOrder g s = _
  simp only [execBreakOrder, h, hy]

theorem exec_makeOrder_of_takeMake {q : Port} (h : (s.group g).orders = .makeRoute q :: rest)
    (hy : ({ s.group g with orders := rest } : Group).takeMake q = y) :
    exec (.makeOrder g) s = .next (s.setGroup g y) := by
  change execMakeOrder g s = _
  simp only [execMakeOrder, h, hy]

end

/-- Settles O48: the order leaves the queue, and the state of the group chooses what it does to the rest of the record. -/
theorem ordersAreTakenAtTheGroup : Obligations.OrdersAreTakenAtTheGroup := by
  refine fun s g rest => ⟨fun hbreak => ⟨fun hroute => ?_, fun hnone => ?_⟩, fun q hmake => ⟨fun hbroken => ?_, fun hother => ?_⟩⟩
  · exact exec_breakOrder_of_takeBreak hbreak (Group.takeBreak_of_made_or_making hroute)
  · have hmade : (s.group g).state ≠ .made := by obtain h | h | h := hnone <;> simp [h]
    have hmaking : (s.group g).state ≠ .making := by obtain h | h | h := hnone <;> simp [h]
    exact exec_breakOrder_of_takeBreak hbreak (Group.takeBreak_of_no_route hmade hmaking)
  · exact exec_makeOrder_of_takeMake hmake (Group.takeMake_of_broken q hbroken)
  · exact exec_makeOrder_of_takeMake hmake (Group.takeMake_of_ne_broken q hother)

end Sys2Proof.Machine
end

section
/-! The repeat step of a frame, for the command of every row (R166), and the session and authority steps behind it. -/

namespace Sys2Proof.Machine

/-! ### A frame comes to the repeat step -/

/-- Every row that stands for a frame runs it with the checks and effects of its own command (R173). -/
theorem exec_instr (cmd : HostCommand) (p : Port) (seq : Byte) (s : State) :
    exec (cmd.instr p seq) s = .next (runFrame p seq cmd (carryOut p cmd) s) := by
  cases cmd <;> rfl

/-- The engine in EXECUTING with a frame that comes to the repeat step: the memory is still the one before the frame. -/
def Engine.atRepeatStep (e : Engine) (seq : Byte) (cmd : HostCommand) : Engine :=
  { e.carrying seq cmd with memory := e.memory }

/-- The part with a frame of port `p` in EXECUTING and the lease renewed, before the repeat step. -/
def State.atRepeatStep (s : State) (p : Port) (seq : Byte) (cmd : HostCommand) : State :=
  (s.carrying p seq cmd).setEngine p ((s.engine p).atRepeatStep seq cmd)

/-- The link part of a frame at a sound engine that can receive, the memory not yet touched (R185). -/
theorem Engine.completeFrame_openFrame {e : Engine} (sound : e.Sound) (h1 : e.state ≠ .executing) (h2 : e.state ≠ .stretched)
    (seq : Byte) (cmd : HostCommand) : (e.openFrame (cmd.frameBytes seq)).completeFrame seq = e.atRepeatStep seq cmd := by
  have hmem : ((e.openFrame (cmd.frameBytes seq)).completeFrame seq).memory = e.memory :=
    Engine.openFrame_memory e (cmd.frameBytes seq)
  rw [Engine.atRepeatStep, ← Engine.openFrame_completeFrame sound h1 h2 seq cmd, ← hmem]

/-- An engine that has put off no stage of a RESTART leaves EXECUTING for IGNORING with the record and the memory that stand (R186,
R191). -/
theorem Engine.leaveExecuting_atRepeatStep {e : Engine} (h : e.stageDeferred = false) (seq : Byte) (cmd : HostCommand) :
    (e.atRepeatStep seq cmd).leaveExecuting =
      { e.atRepeatStep seq cmd with state := .ignoring, busTimer := some Config.busTimeout } := by
  simp [Engine.leaveExecuting, Engine.atRepeatStep, Engine.carrying, h]

section
variable {s : State} {p : Port} {seq : Byte} {cmd : HostCommand}

/-- Authority is a hold of L0, which no frame changes before its own effect (R147). -/
@[simp] theorem State.hasAuthority_carrying (q : Port) : (s.carrying p seq cmd).hasAuthority q = s.hasAuthority q := rfl

@[simp] theorem State.engine_atRepeatStep :
    (s.atRepeatStep p seq cmd).engine p = (s.engine p).atRepeatStep seq cmd := by
  simp [State.atRepeatStep]

/-- What the engine becomes after the repeat step replaces the frame in EXECUTING; the lease stays renewed. -/
@[simp] theorem State.setEngine_atRepeatStep (e : Engine) :
    (s.atRepeatStep p seq cmd).setEngine p e = (s.carrying p seq cmd).setEngine p e := by
  simp [State.atRepeatStep]

/-- The memory takes the frame: from here on it is a new frame that is carried out (R165). -/
theorem State.remember_atRepeatStep : (s.atRepeatStep p seq cmd).remember p cmd = s.carrying p seq cmd := by
  have hengine : (s.engine p).carrying seq cmd = (s.carrying p seq cmd).engine p := by simp
  calc (s.atRepeatStep p seq cmd).remember p cmd
      = (s.carrying p seq cmd).setEngine p ((s.engine p).carrying seq cmd) := by
        rw [State.remember, State.engine_atRepeatStep, State.setEngine_atRepeatStep]
        rfl
    _ = s.carrying p seq cmd := by rw [hengine, State.setEngine_self]

/-- A frame that the link accepts while no other port has a RESTART in progress comes to the repeat step with the lease renewed
(R173). -/
theorem runFrame_frameComes (carry : State → State) (h : FrameComes s p cmd) :
    runFrame p seq cmd carry s = repeatStep p cmd carry (s.atRepeatStep p seq cmd) := by
  obtain ⟨⟨sound, hexec, hstretch⟩, hrestart, hlen⟩ := h
  have hscl : (s.engine p).holdsScl = false := by
    cases he : (s.engine p).state <;> simp_all [Engine.holdsScl]
  have hheld : s.holdsFrames p = false := by
    cases hr : s.restart <;> simp_all [State.holdsFrames]
  have hstate : (s.setEngine p ((s.engine p).atRepeatStep seq cmd)).renewLease p = s.atRepeatStep p seq cmd := by
    rw [State.renewLease_eq, State.session_setEngine]
    simp [State.atRepeatStep, State.carrying, State.setEngine, State.setSession]
  simp [runFrame, hscl, hlen, hheld, Engine.completeFrame_openFrame sound hexec hstretch, hstate]

/-- A frame comes to an engine that has put off no stage of a RESTART: it is not in EXECUTING (R158). -/
theorem FrameComes.stageDeferred (h : FrameComes s p cmd) : (s.engine p).stageDeferred = false := by
  obtain ⟨⟨⟨-, -, -, -, -, hdeferred, -⟩, hexec, -⟩, -⟩ := h
  cases hs : (s.engine p).stageDeferred with
  | false => rfl
  | true => exact absurd (hdeferred hs).1 hexec

end

/-! ### The outcomes of the repeat step and of the two steps behind it -/

section
variable {s : State} {p : Port} {cmd : HostCommand} {carry : State → State}

theorem repeatStep_repeat (h : (s.engine p).memory = some ((s.engine p).execSeq, cmd.code)) :
    repeatStep p cmd carry s = s.setEngine p (s.engine p).leaveExecuting := by
  simp [repeatStep, h]

theorem repeatStep_seqReused {last : Byte} (h : (s.engine p).memory = some ((s.engine p).execSeq, last))
    (hlast : last ≠ cmd.code) : repeatStep p cmd carry s = s.respond p .seqReused [] := by
  simp [repeatStep, h, hlast]

theorem repeatStep_fresh (h : (s.engine p).memory.map Prod.fst ≠ some (s.engine p).execSeq) :
    repeatStep p cmd carry s = sessionAndAuthority p cmd carry (s.remember p cmd) := by
  unfold repeatStep
  cases hm : (s.engine p).memory with
  | none => rfl
  | some last =>
    have hseq : last.1 ≠ (s.engine p).execSeq := by simpa [hm] using h
    simp [hseq]

theorem sessionAndAuthority_noSession (h : cmd.passesSession (s.session p).state = false) :
    sessionAndAuthority p cmd carry s = s.refuse p .noSession := if_pos h

theorem sessionAndAuthority_notAuthorized (hsession : cmd.passesSession (s.session p).state = true)
    (hconf : cmd.isConfiguration = true) (hauth : s.hasAuthority p = false) :
    sessionAndAuthority p cmd carry s = s.refuse p .notAuthorized := by
  simp [sessionAndAuthority, hsession, hconf, hauth]

theorem sessionAndAuthority_carry (hsession : cmd.passesSession (s.session p).state = true)
    (hauth : cmd.isConfiguration = true → s.hasAuthority p = true) :
    sessionAndAuthority p cmd carry s = carry s := by
  have hpass : ¬(cmd.isConfiguration = true ∧ s.hasAuthority p = false) := by
    rintro ⟨hconf, hnone⟩
    simp [hauth hconf] at hnone
  simp [sessionAndAuthority, hsession, hpass]

end

/-! ### The repeat step of every frame -/

section
variable {s : State} {p : Port} {seq : Byte} {cmd : HostCommand}

/-- At the repeat step the kept SEQ is the frame's, and the memory is the one before it (R185, R166). -/
theorem State.memory_atRepeatStep {last : Byte} (h : (s.engine p).memory = some (seq, last)) :
    ((s.atRepeatStep p seq cmd).engine p).memory = some (((s.atRepeatStep p seq cmd).engine p).execSeq, last) := by
  rw [State.engine_atRepeatStep]
  exact h

/-- A repeat leaves EXECUTING with the stored record (R166, R167). -/
theorem exec_instr_repeat (h : FrameComes s p cmd) (hmem : (s.engine p).memory = some (seq, cmd.code)) :
    exec (cmd.instr p seq) s = .next ((s.carrying p seq cmd).setEngine p
      { (s.engine p).atRepeatStep seq cmd with state := .ignoring, busTimer := some Config.busTimeout }) := by
  rw [exec_instr, runFrame_frameComes _ h, repeatStep_repeat (State.memory_atRepeatStep hmem), State.setEngine_atRepeatStep,
    State.engine_atRepeatStep, Engine.leaveExecuting_atRepeatStep h.stageDeferred]

/-- A reused SEQ is answered SEQ_REUSED (R166, R168). -/
theorem exec_instr_seqReused {last : Byte} (h : FrameComes s p cmd) (hmem : (s.engine p).memory = some (seq, last))
    (hlast : last ≠ cmd.code) :
    exec (cmd.instr p seq) s = .next ((s.atRepeatStep p seq cmd).answer p .seqReused []) := by
  have hdeferred : ((s.atRepeatStep p seq cmd).engine p).stageDeferred = false := by
    rw [State.engine_atRepeatStep]
    exact h.stageDeferred
  rw [exec_instr, runFrame_frameComes _ h, repeatStep_seqReused (State.memory_atRepeatStep hmem) hlast,
    State.respond_eq_answer hdeferred]

/-- A new frame goes on to the session step with the memory taken and the lease renewed (R166, R173). -/
theorem exec_instr_fresh (h : FrameArrives s p seq cmd) :
    exec (cmd.instr p seq) s =
      .next (sessionAndAuthority p cmd (carryOut p cmd) (s.carrying p seq cmd)) := by
  obtain ⟨hcomes, hfresh⟩ := h
  have hmem : ((s.atRepeatStep p seq cmd).engine p).memory.map Prod.fst
      ≠ some ((s.atRepeatStep p seq cmd).engine p).execSeq := by
    rwa [State.engine_atRepeatStep]
  rw [exec_instr, runFrame_frameComes _ hcomes, repeatStep_fresh hmem, State.remember_atRepeatStep]

/-- A refusal of the new frame is an answer: no stage of a RESTART waits for the engine to leave EXECUTING (R176). -/
theorem FrameComes.refuse_carrying (h : FrameComes s p cmd) (st : Status) :
    (s.carrying p seq cmd).refuse p st = (s.carrying p seq cmd).answer p st [] :=
  State.respond_eq_answer (by simpa [Engine.carrying] using h.stageDeferred) st []

end

/-- Settles O6: the frame comes to the repeat step with the memory as it was, and each branch of the repeat step, of the session
step and of the authority step leaves the state that the statement names. -/
theorem repeatStepOfEveryFrame : Obligations.RepeatStepOfEveryFrame := by
  intro s p seq cmd hcomes u passed
  refine ⟨fun last hmem hlast => ?_, fun last hmem hlast => ?_, fun hfresh => ⟨fun hsession => ?_,
    fun hsession hconf hauth => ?_, fun hsession hauth => ?_⟩⟩
  · exact exec_instr_repeat hcomes (hlast ▸ hmem)
  · rw [exec_instr_seqReused hcomes hmem hlast, State.answer, State.setEngine_atRepeatStep, State.engine_atRepeatStep]
    rfl
  · rw [exec_instr_fresh ⟨hcomes, hfresh⟩, sessionAndAuthority_noSession (by simpa using hsession), hcomes.refuse_carrying]
  · rw [exec_instr_fresh ⟨hcomes, hfresh⟩,
      sessionAndAuthority_notAuthorized (by simpa using hsession) hconf (by simpa using hauth), hcomes.refuse_carrying]
  · rw [exec_instr_fresh ⟨hcomes, hfresh⟩, sessionAndAuthority_carry (by simpa using hsession) (by simpa using hauth)]

end Sys2Proof.Machine
end

section
/-! Argument bytes, and the end of a frame that is carried out (R170, R175, R187). -/

namespace Sys2Proof.Machine

/-! ### Argument bytes -/

/-- A number below 256 is kept by its byte. -/
theorem natByte_toNat {n : Nat} (h : n < 256) : (natByte n).toNat = n := by
  simp [natByte, Nat.mod_eq_of_lt h]

theorem argByte_toNat {n : Nat} (i : Fin n) (h : n ≤ 256) : (argByte i).toNat = i.val :=
  natByte_toNat (i.isLt.trans_le h)

theorem lockArg_of_toNat {b : Byte} {l : LockId} (h : b.toNat = l.val) : lockArg b = some l := by
  simp [lockArg, h]

theorem portArg_of_toNat {b : Byte} {q : Port} (h : b.toNat = q.val) : portArg b = some q := by
  simp [portArg, h]

theorem groupArg_of_toNat {b : Byte} {g : GroupId} (h : b.toNat = g.val) : groupArg b = some g := by
  simp [groupArg, h]

theorem prioArg_of_toNat {b : Byte} {x : Prio} (h : b.toNat = x.val) : prioArg b = some x := by
  simp [prioArg, h]

@[simp] theorem lockArg_argByte (l : LockId) : lockArg (argByte l) = some l := lockArg_of_toNat (argByte_toNat l (by decide))
@[simp] theorem portArg_argByte (q : Port) : portArg (argByte q) = some q := portArg_of_toNat (argByte_toNat q (by decide))
@[simp] theorem groupArg_argByte (g : GroupId) : groupArg (argByte g) = some g :=
  groupArg_of_toNat (argByte_toNat g (by decide))
@[simp] theorem prioArg_argByte (x : Prio) : prioArg (argByte x) = some x := prioArg_of_toNat (argByte_toNat x (by decide))
@[simp] theorem modeArg_code (m : Mode) : modeArg m.code = some m := by cases m <;> rfl
@[simp] theorem waitArg_code (w : WaitMode) : waitArg w.code = some w := by cases w <;> rfl
@[simp] theorem boolArg_boolByte (b : Bool) : boolArg (boolByte b) = some b := by cases b <;> rfl

theorem lockArg_eq_none {b : Byte} (h : 31 < b.toNat) : lockArg b = none := dif_neg (by omega)
theorem portArg_eq_none {b : Byte} (h : 3 < b.toNat) : portArg b = none := dif_neg (by omega)
theorem groupArg_eq_none {b : Byte} (h : 3 < b.toNat) : groupArg b = none := dif_neg (by omega)
theorem prioArg_eq_none {b : Byte} (h : 3 < b.toNat) : prioArg b = none := dif_neg (by omega)

theorem modeArg_eq_none {b : Byte} (h : 1 < b.toNat) : modeArg b = none := by
  have h0 : b ≠ 0 := by rintro rfl; simp at h
  have h1 : b ≠ 1 := by rintro rfl; simp at h
  rw [modeArg, if_neg h0, if_neg h1]

theorem boolArg_eq_none {b : Byte} (h : 1 < b.toNat) : boolArg b = none := by
  have h0 : b ≠ 0 := by rintro rfl; simp at h
  have h1 : b ≠ 1 := by rintro rfl; simp at h
  rw [boolArg, if_neg h0, if_neg h1]

theorem waitArg_eq_none {b : Byte} (h : 2 < b.toNat) : waitArg b = none := by
  have h0 : b ≠ 0 := by rintro rfl; simp at h
  have h1 : b ≠ 1 := by rintro rfl; simp at h
  have h2 : b ≠ 2 := by rintro rfl; simp at h
  rw [waitArg, if_neg h0, if_neg h1, if_neg h2]

/-! ### The end of a frame -/

section
variable {s : State} {p : Port} {seq : Byte} {cmd : HostCommand}

/-- A frame that is carried out has the effect of its own command on the part with the frame in EXECUTING (R173). -/
theorem exec_instr_carriedOut (h : CarriedOut s p seq cmd) :
    exec (cmd.instr p seq) s = .next (carryOut p cmd (s.carrying p seq cmd)) := by
  rw [exec_instr, runFrame_carriedOut _ h]

/-- A frame that is carried out finds no stage put off, so its response is an answer wherever the engine's record has stayed
(R158, R170). -/
theorem CarriedOut.respond (h : CarriedOut s p seq cmd) {u : State}
    (hu : (u.engine p).stageDeferred = ((s.carrying p seq cmd).engine p).stageDeferred) (st : Status) (data : List Byte) :
    u.respond p st data = u.answer p st data :=
  State.respond_eq_answer (by rw [hu]; simpa [Engine.carrying] using h.stageDeferred) st data

/-- A refusal stores its status and changes nothing else (R176). -/
theorem CarriedOut.refuse (h : CarriedOut s p seq cmd) (st : Status) :
    (s.carrying p seq cmd).refuse p st = (s.carrying p seq cmd).answer p st [] := h.respond rfl st []

/-- The engine of a frame that is carried out has no stretch left over, so the stretch it begins sets three fields only
(R187). -/
theorem CarriedOut.beginStretch (h : CarriedOut s p seq cmd) {u : State}
    (hu : u.engine p = (s.carrying p seq cmd).engine p) (l : LockId) : u.beginStretch p l = u.stretch p l := by
  obtain ⟨⟨⟨⟨sound, -, hstretch⟩, -⟩, -⟩, -⟩ := h
  obtain ⟨-, -, -, -, -, -, hlock, -, hclaim, habort, hhanded, -⟩ := sound
  have hnolock : (s.engine p).stretchLock = none := by
    simpa using mt hlock.mp hstretch
  have hnoclaim : (s.engine p).limitClaim = none := by
    by_contra hne
    obtain ⟨l', hl'⟩ := Option.ne_none_iff_exists'.mp hne
    have := hclaim (by simp [hl'])
    simp [hnolock, hl'] at this
  have hnoabort : (s.engine p).abortEndings = false := by simpa using mt habort hstretch
  have hnohanded : (s.engine p).handed = none := by simpa using mt hhanded hstretch
  rw [State.beginStretch, State.stretch, hu]
  simp [Engine.beginStretch, Engine.carrying, hnoclaim, hnoabort, hnohanded]

end

/-! ### Engines under the lock table's operations -/

section
variable (s : State)

theorem State.engine_postGuarded (w : Waiter) (n : Notice) (k : Option Port) (p : Port) :
    (s.postGuarded w n k).engine p = s.engine p := by
  rw [State.postGuarded_frame]; rfl

/-- Telling a grant hands an ending to the engine of the entry's port at most (R40). -/
theorem State.engine_deliverGrant (l : LockId) (w : Waiter) (m : Mode) (gen : Word16) (k : Option Port) (p : Port) :
    (s.deliverGrant l w m gen k).engine p =
      { s.engine p with handed := ((s.deliverGrant l w m gen k).engine p).handed } := by
  unfold State.deliverGrant State.endStretch
  split
  · rw [State.engine_handEnding]
    split
    · next h => subst h; rfl
    · rfl
  · simp only [State.engine_postGuarded]

theorem State.engine_deliverBatch (l : LockId) (gen : Word16) (k : Option Port) (ws : List Waiter) (p : Port) :
    (s.deliverBatch l gen k ws).engine p =
      { s.engine p with handed := ((s.deliverBatch l gen k ws).engine p).handed } := by
  induction ws generalizing s with
  | nil => rfl
  | cons w ws ih => rw [State.deliverBatch, ih, State.engine_deliverGrant]

theorem State.engine_sendOrder (l : LockId) (o : Order) (p : Port) : (s.sendOrder l o).engine p = s.engine p := by
  rw [State.sendOrder_frame]; rfl

/-- A grant pass changes an engine by the ending it hands over, and by nothing else (R33, R40). -/
theorem State.engine_grantPass (l : LockId) (k : Option Port) (p : Port) :
    (s.grantPass l k).engine p = { s.engine p with handed := ((s.grantPass l k).engine p).handed } := by
  simp only [State.grantPass]
  cases (s.lock l).pass with
  | nothing => rfl
  | grantHead w => simp only [State.tellPass]; rw [State.engine_deliverGrant]; rfl
  | batch ws => simp only [State.tellPass]; rw [State.engine_deliverBatch]; rfl
  | convert w => simp only [State.tellPass]; rw [State.engine_deliverGrant]; rfl
  | startHandover w => simp only [State.tellPass, State.engine_sendOrder]; rfl

theorem State.engine_vacate (l : LockId) (lk : LockRec) (from_ : Option Port) (p : Port) :
    (s.vacate l lk from_).engine p = s.engine p := by
  rw [State.vacate_frame]; rfl

theorem State.engine_releasePath (l : LockId) (ports : List Port) (k : Option Port) (p : Port) :
    (s.releasePath l ports k).engine p = { s.engine p with handed := ((s.releasePath l ports k).engine p).handed } := by
  simp only [State.releasePath]
  split
  · split
    · rw [State.engine_grantPass]; rfl
    · rw [State.engine_vacate]
  · rw [State.engine_grantPass]; rfl

@[simp] theorem State.stageDeferred_grantPass (l : LockId) (k : Option Port) (p : Port) :
    ((s.grantPass l k).engine p).stageDeferred = (s.engine p).stageDeferred := by
  rw [State.engine_grantPass]

@[simp] theorem State.stageDeferred_releasePath (l : LockId) (ports : List Port) (k : Option Port) (p : Port) :
    ((s.releasePath l ports k).engine p).stageDeferred = (s.engine p).stageDeferred := by
  rw [State.engine_releasePath]

end

/-! ### Standing of a port at a lock -/

section
variable {lk : LockRec} {l : LockId} {p : Port}

theorem LockRec.holderOf_eq_none : lk.holderOf p = none ↔ p ∉ lk.holders.map Holder.port := by
  simp [LockRec.holderOf, List.find?_eq_none]

theorem LockRec.holderOf_eq_some {h : Holder} (hh : lk.holderOf p = some h) : h ∈ lk.holders ∧ h.port = p :=
  ⟨List.mem_of_find?_eq_some hh, by simpa using List.find?_some hh⟩

theorem LockRec.waiterOf_isSome : (lk.waiterOf p).isSome = true ↔ p ∈ lk.queue.map Waiter.port := by
  simp [LockRec.waiterOf, List.find?_isSome]

theorem LockRec.waiterOf_eq_none : lk.waiterOf p = none ↔ p ∉ lk.queue.map Waiter.port := by
  simp [LockRec.waiterOf, List.find?_eq_none]

theorem LockRec.waiterOf_eq_some {w : Waiter} (hw : lk.waiterOf p = some w) : w ∈ lk.queue ∧ w.port = p :=
  ⟨List.mem_of_find?_eq_some hw, by simpa using List.find?_some hw⟩

theorem LockRec.isTarget_iff : lk.isTarget p = true ↔ p ∈ (lk.target.map Waiter.port).toList := by
  unfold LockRec.isTarget
  cases lk.target <;> simp [eq_comm]

theorem LockRec.waitsFor_iff :
    lk.waitsFor p = true ↔ p ∈ lk.queue.map Waiter.port ∨ p ∈ (lk.target.map Waiter.port).toList := by
  rw [LockRec.waitsFor, Bool.or_eq_true, LockRec.waiterOf_isSome, LockRec.isTarget_iff]

theorem LockRec.waitsFor_eq_false (hq : p ∉ lk.queue.map Waiter.port) (ht : p ∉ (lk.target.map Waiter.port).toList) :
    lk.waitsFor p = false :=
  Bool.eq_false_iff.mpr fun h => (LockRec.waitsFor_iff.mp h).elim hq ht

/-- In a list where no port stands twice an entry is the entry of its port. -/
theorem find?_port_eq_some {α : Type} (port : α → Port) {xs : List α} {x : α} (hnodup : (xs.map port).Nodup) (hx : x ∈ xs) :
    xs.find? (fun o => decide (port o = port x)) = some x := by
  induction xs with
  | nil => simp at hx
  | cons y ys ih =>
    obtain ⟨hy, hys⟩ := List.nodup_cons.mp hnodup
    obtain rfl | hx := List.mem_cons.mp hx
    · simp
    · have hne : port y ≠ port x := fun h => hy (h ▸ List.mem_map_of_mem hx)
      simpa [hne] using ih hys hx

theorem LockRec.waiterOf_mem {w : Waiter} (hnodup : (lk.queue.map Waiter.port).Nodup) (hw : w ∈ lk.queue) :
    lk.waiterOf w.port = some w := find?_port_eq_some Waiter.port hnodup hw

theorem LockRec.holderOf_mem (hnodup : (lk.holders.map Holder.port).Nodup) {x : Holder} (hx : x ∈ lk.holders) :
    lk.holderOf x.port = some x := find?_port_eq_some Holder.port hnodup hx

theorem State.refusesShared_iff {s : State} :
    s.refusesShared l = true ↔ l = 0 ∨ (s.lock l).sharedAllowed = false ∨ (s.lock l).group ≠ none := by
  simp [State.refusesShared, or_assoc, Option.isSome_iff_ne_none]

/-! ### What a sound lock holds in each state -/

/-- Only an EXCLUSIVE or SHARED lock has holders (R2). -/
theorem LockRec.Sound.holders_eq_nil (h : lk.Sound l) (h1 : lk.state ≠ .exclusive) (h2 : lk.state ≠ .shared) :
    lk.holders = [] := by
  obtain ⟨-, -, hnone, -⟩ := h.holders
  exact hnone h1 h2

theorem LockRec.Sound.holders_of_free (h : lk.Sound l) (hs : lk.state = .free) : lk.holders = [] :=
  h.holders_eq_nil (by simp [hs]) (by simp [hs])

theorem LockRec.Sound.queue_of_free (h : lk.Sound l) (hs : lk.state = .free) : lk.queue = [] := by
  obtain ⟨-, hfree, -⟩ := h.queue
  exact hfree hs

theorem LockRec.Sound.target_eq_none (h : lk.Sound l) (hs : lk.state ≠ .handover) : lk.target = none := by
  obtain ⟨-, htarget, -⟩ := h.places
  simpa using mt htarget.mp hs

theorem LockRec.Sound.state_of_target {w : Waiter} (h : lk.Sound l) (hw : lk.target = some w) : lk.state = .handover := by
  obtain ⟨-, htarget, -⟩ := h.places
  exact htarget.mp (by simp [hw])

theorem LockRec.Sound.vacatingFrom_eq_none (h : lk.Sound l) (hs : lk.state ≠ .vacating) : lk.vacatingFrom = none := by
  obtain ⟨hvacating, -⟩ := h.places
  simpa using mt hvacating.mp hs

theorem LockRec.Sound.ports_nodup (h : lk.Sound l) : (lk.queue.map Waiter.port).Nodup := h.queue.1

/-- A SHARED lock is not bound (R7). -/
theorem LockRec.Sound.unbound_of_shared (h : lk.Sound l) (hs : lk.state = .shared) : lk.group = none := by
  obtain ⟨hshared, -⟩ := h.attributes
  exact (hshared hs).2

/-- The holder of a lock with an EXCLUSIVE entry is alone (R2). -/
theorem LockRec.Sound.sole_exclusive {x : Holder} (h : lk.Sound l) (hx : x ∈ lk.holders) (hmode : x.mode = .exclusive) :
    lk.state = .exclusive ∧ lk.holders = [x] := by
  obtain ⟨hexcl, hshared, hnone, -⟩ := h.holders
  have hs : lk.state = .exclusive := by
    by_contra hne
    by_cases hsh : lk.state = .shared
    · obtain ⟨-, hall, -⟩ := hshared hsh
      simp [hall x hx] at hmode
    · simp [hnone hne hsh] at hx
  obtain ⟨hlen, -⟩ := hexcl hs
  obtain ⟨y, hy⟩ := List.length_eq_one_iff.mp hlen
  rw [hy] at hx ⊢
  rw [List.mem_singleton.mp hx]
  exact ⟨hs, rfl⟩

end

end Sys2Proof.Machine
end

section
/-! ACQUIRE in each of its outcomes (R8 to R13, R28, R30, R31, R37 to R39). -/

namespace Sys2Proof.Machine

/-! ### The branches of ACQUIRE -/

section
variable {s : State} {p : Port} {seq : Byte} {l : LockId} {m : Mode} {w : WaitMode} {deadline : Word16}

/-- An ACQUIRE with arguments in range goes on to the lock (R8). -/
theorem exec_acquire_carriedOut (h : CarriedOut s p seq (.acquire (argByte l) m.code w.code deadline)) :
    exec (.acquire p seq (argByte l) m.code w.code deadline) s =
      .next (acquireAt p l m w deadline (s.carrying p seq (.acquire (argByte l) m.code w.code deadline))) := by
  refine (exec_instr_carriedOut h).trans ?_
  simp [carryOut, carryAcquire]

theorem acquireAt_mode (hm : m = .shared) (hr : s.refusesShared l = true) :
    acquireAt p l m w deadline s = s.refuse p .mode := if_pos ⟨hm, hr⟩

theorem acquireAt_held {h : Holder} (hmode : ¬(m = .shared ∧ s.refusesShared l = true))
    (hh : (s.lock l).holderOf p = some h) (hheld : m = .shared ∨ h.mode = .exclusive) :
    acquireAt p l m w deadline s = s.refuse p .held := by
  simp [acquireAt, hmode, hh, hheld]

/-- A port that waits already is refused, whether it holds the lock SHARED or not at all (R9 step 4). -/
theorem acquireAt_duplicate (hmode : ¬(m = .shared ∧ s.refusesShared l = true))
    (hheld : ¬∃ h ∈ (s.lock l).holderOf p, m = .shared ∨ h.mode = .exclusive) (hw : (s.lock l).waitsFor p = true) :
    acquireAt p l m w deadline s = s.refuse p .duplicate := by
  cases hh : (s.lock l).holderOf p with
  | none => simp [acquireAt, hmode, hh, hw]
  | some h =>
    have hnot : ¬(m = .shared ∨ h.mode = .exclusive) := fun hx => hheld ⟨h, hh, hx⟩
    simp [acquireAt, hmode, hh, hnot, hw]

theorem acquireAt_upgrade {h : Holder} (hm : m = .exclusive) (hh : (s.lock l).holderOf p = some h) (hmode : h.mode = .shared)
    (hw : (s.lock l).waitsFor p = false) : acquireAt p l m w deadline s = upgrade p l w deadline s := by
  simp [acquireAt, hm, hh, hmode, hw]

theorem acquireAt_fresh (hmode : ¬(m = .shared ∧ s.refusesShared l = true)) (hh : (s.lock l).holderOf p = none)
    (hw : (s.lock l).waitsFor p = false) : acquireAt p l m w deadline s = freshRequest p l m w deadline s := by
  simp [acquireAt, hmode, hh, hw]

theorem freshRequest_free_unbound (hs : (s.lock l).state = .free) (hg : (s.lock l).group = none) :
    freshRequest p l m w deadline s = grantAtOnce p l m s := by
  simp [freshRequest, hs, hg]

theorem freshRequest_free_bound {g : GroupId} (hs : (s.lock l).state = .free) (hg : (s.lock l).group = some g) :
    freshRequest p l m w deadline s = startHandover p l (decide (w = .block)) s := by
  simp [freshRequest, hs, hg]

theorem freshRequest_join (hm : m = .shared) (hs : (s.lock l).state = .shared) (hq : (s.lock l).queue = []) :
    freshRequest p l m w deadline s = grantAtOnce p l m s := by
  simp [freshRequest, hm, hs, hq]

theorem freshRequest_wait (hs : (s.lock l).state ≠ .free)
    (hjoin : ¬(m = .shared ∧ (s.lock l).state = .shared ∧ (s.lock l).queue = [])) :
    freshRequest p l m w deadline s = waitForLock p l m w deadline s := by
  simp [freshRequest, hs, hjoin]

/-- The position of a port is that of its number among the ports of the queue (R38). -/
theorem queuePosition_eq (p : Port) (queue : List Waiter) :
    queuePosition p queue = (queue.map Waiter.port).idxOf p + 1 := by
  simp only [queuePosition, List.idxOf, List.findIdx_map]
  congr 2

/-- A request with a waiter entry is answered with its position, or begins the stretch (R38, R39). -/
theorem CarriedOut.enqueue {cmd : HostCommand} (h : CarriedOut s p seq cmd) (req : ReqMode) (blocking : Bool)
    (queue : List Waiter)
    (hqueue : insertWaiter ((s.carrying p seq cmd).newWaiter p req blocking (deadlineOf deadline)) (s.lock l).queue = queue) :
    enqueue p l req blocking deadline (s.carrying p seq cmd) =
      if blocking = true then ((s.carrying p seq cmd).setLock l { s.lock l with queue := queue }).stretch p l
      else ((s.carrying p seq cmd).setLock l { s.lock l with queue := queue }).answer p .queued
        [natByte (queuePosition p queue)] := by
  simp only [Machine.enqueue, State.lock_carrying, hqueue]
  split
  · exact h.beginStretch (by rfl) l
  · exact h.respond (by rfl) _ _

end

/-- Settles O13: the three refusals are the first branches of ACQUIRE, in their order. -/
theorem acquireRefusals : Obligations.AcquireRefusals := by
  intro s p seq l m w deadline h u modeRefused held waiting
  have hmode : modeRefused ↔ m = .shared ∧ u.refusesShared l = true := and_congr_right fun _ => State.refusesShared_iff.symm
  refine ⟨fun hm => ?_, fun hm ⟨x, hx, hheld⟩ => ?_, fun hm hh hw => ?_⟩ <;> rw [exec_acquire_carriedOut h]
  · obtain ⟨hm, hr⟩ := hmode.mp hm
    rw [acquireAt_mode hm hr, h.refuse]
  · rw [acquireAt_held (mt hmode.mpr hm) hx hheld, h.refuse]
  · rw [acquireAt_duplicate (mt hmode.mpr hm) hh (LockRec.waitsFor_iff.mpr hw), h.refuse]

/-- Settles O9: the lock has no entry of the port, so the request is fresh, and the grant step adds one holder. -/
theorem acquireGrantedAtOnce : Obligations.AcquireGrantedAtOnce := by
  intro s p seq l m w deadline h sound hshare hcase gen
  set u := s.carrying p seq (.acquire (argByte l) m.code w.code deadline) with hu
  have hlock : u.lock l = s.lock l := rfl
  have hmode : ¬(m = .shared ∧ u.refusesShared l = true) := by
    rintro ⟨hm, hr⟩
    obtain ⟨hl, hallowed, hgroup⟩ := hshare hm
    simp [State.refusesShared_iff, hl, hlock, hallowed, hgroup] at hr
  have hnew : p ∉ (s.lock l).holders.map Holder.port := by
    obtain ⟨hs, -⟩ | ⟨-, -, -, hp⟩ := hcase
    · simp [sound.holders_of_free hs]
    · exact hp
  have hqueue : (s.lock l).queue = [] := by
    obtain ⟨hs, -⟩ | ⟨-, -, hq, -⟩ := hcase
    · exact sound.queue_of_free hs
    · exact hq
  have htarget : (s.lock l).target = none := by
    apply sound.target_eq_none
    obtain ⟨hs, -⟩ | ⟨-, hs, -⟩ := hcase <;> simp [hs]
  have hwaits : (u.lock l).waitsFor p = false :=
    LockRec.waitsFor_eq_false (by simp [hlock, hqueue]) (by simp [hlock, htarget])
  have hgrant : freshRequest p l m w deadline u = grantAtOnce p l m u := by
    obtain ⟨hs, hg⟩ | ⟨hm, hs, hq, -⟩ := hcase
    · exact freshRequest_free_unbound hs hg
    · exact freshRequest_join hm hs hq
  rw [exec_acquire_carriedOut h, acquireAt_fresh hmode (LockRec.holderOf_eq_none.mpr hnew) hwaits, hgrant, grantAtOnce, hlock,
    LockRec.grant_of_new_ports (fun x hx => by simpa using fun e : x.port = p => hnew (e ▸ List.mem_map_of_mem hx))]
  refine congrArg _ ((h.respond (by rfl) _ _).trans ?_)
  cases m <;> rfl

/-- Settles O10: a FREE lock has neither holder nor waiter, so the request is fresh and the bound lock starts the handover. -/
theorem acquireOnFreeBoundLockStartsHandover : Obligations.AcquireOnFreeBoundLockStartsHandover := by
  intro s p seq l g w deadline h sound hs hg target u
  have hwaits : (s.lock l).waitsFor p = false :=
    LockRec.waitsFor_eq_false (by simp [sound.queue_of_free hs]) (by simp [sound.target_eq_none (by simp [hs])])
  have hholder : (s.lock l).holderOf p = none := LockRec.holderOf_eq_none.mpr (by simp [sound.holders_of_free hs])
  have hexec := exec_acquire_carriedOut (m := .exclusive) h
  rw [acquireAt_fresh (s := s.carrying ..) (by simp) hholder hwaits, freshRequest_free_bound (s := s.carrying ..) hs hg] at hexec
  refine hexec.trans (congrArg _ ?_)
  have hstate : (((s.carrying p seq (.acquire (argByte l) 1 w.code deadline)).setLock l
      { s.lock l with state := .handover, target := some target }).sendOrder l (.makeRoute p)) = u := by
    simp [State.sendOrder, hg, u]
  have htarget : (s.carrying p seq (.acquire (argByte l) 1 w.code deadline)).newWaiter p .exclusive (decide (w = .block)) none
      = target := by simp [State.newWaiter, target]
  have hone : Mode.exclusive.code = 1 := rfl
  simp only [startHandover, State.lock_carrying, hone, htarget, hstate, decide_eq_true_eq]
  by_cases hw : w = .block
  · rw [if_pos hw, if_pos hw]
    exact h.beginStretch (by rfl) l
  · rw [if_neg hw, if_neg hw]
    exact h.respond (by rfl) _ _

/-- Settles O11: a fresh request that the lock does not grant goes the way of its wait mode. -/
theorem acquireWaitsByItsWaitMode : Obligations.AcquireWaitsByItsWaitMode := by
  intro s p seq l m w deadline h sound hshare hholder hqueue htarget hfree hjoin u entry queue
  have hmode : ¬(m = .shared ∧ u.refusesShared l = true) := by
    rintro ⟨hm, hr⟩
    obtain ⟨hl, hallowed, hgroup⟩ := hshare hm
    have hlock : u.lock l = s.lock l := rfl
    simp [State.refusesShared_iff, hl, hlock, hallowed, hgroup] at hr
  have hentry : u.newWaiter p (reqOf m) (decide (w = .block)) (deadlineOf deadline) = entry := by
    cases m <;> simp [State.newWaiter, reqOf, deadlineOf, entry, u]
  have hwait : exec (.acquire p seq (argByte l) m.code w.code deadline) s = .next (waitForLock p l m w deadline u) := by
    rw [exec_acquire_carriedOut h, acquireAt_fresh hmode (LockRec.holderOf_eq_none.mpr hholder)
      (LockRec.waitsFor_eq_false hqueue htarget), freshRequest_wait (s := u) hfree hjoin]
  rw [hwait]
  cases w with
  | tryNow =>
    by_cases hf : (s.lock l).state = .faulted
    · simpa [waitForLock, u, hf] using h.refuse .routeFault
    · simpa [waitForLock, u, hf] using h.refuse .busy
  | queue =>
    have hend := h.enqueue (l := l) (deadline := deadline) (reqOf m) false queue (congrArg (insertWaiter · _) hentry)
    simpa [waitForLock, queuePosition_eq] using hend
  | block =>
    have hend := h.enqueue (l := l) (deadline := deadline) (reqOf m) true queue (congrArg (insertWaiter · _) hentry)
    simpa [waitForLock] using hend

/-- Settles O12: the port is a SHARED holder that does not wait, so ACQUIRE takes the upgrade path, whose branches are the
statement's. -/
theorem acquireUpgrades : Obligations.AcquireUpgrades := by
  intro s p seq l w deadline h sound hs hp hq u entry
  obtain ⟨-, hshared, -⟩ := sound.holders
  obtain ⟨-, hmodes, -⟩ := hshared hs
  obtain ⟨x, hx⟩ : ∃ x, (s.lock l).holderOf p = some x :=
    Option.ne_none_iff_exists'.mp (mt LockRec.holderOf_eq_none.mp (by simpa using hp))
  have hupgrade : exec (.acquire p seq (argByte l) 1 w.code deadline) s = .next (upgrade p l w deadline u) := by
    have hexec := exec_acquire_carriedOut (m := .exclusive) h
    rw [acquireAt_upgrade (s := s.carrying ..) rfl hx (hmodes x (LockRec.holderOf_eq_some hx).1)
      (LockRec.waitsFor_eq_false hq (by simp [sound.target_eq_none (by simp [hs])]))] at hexec
    exact hexec
  have hentry (b : Bool) (hb : b = decide (w = .block)) :
      insertWaiter (u.newWaiter p .upgrade b (deadlineOf deadline)) (s.lock l).queue = entry :: (s.lock l).queue := by
    subst hb
    simp [insertWaiter, State.newWaiter, entry, deadlineOf, u]
  have hany : (s.lock l).queue.any (fun w => decide (w.req = .upgrade)) = true ↔ ∃ x ∈ (s.lock l).queue, x.req = .upgrade := by
    simp
  rw [hupgrade]
  refine ⟨fun hlen => congrArg _ ?_, fun hlen => congrArg _ ?_⟩
  · obtain ⟨y, hy⟩ := List.length_eq_one_iff.mp hlen
    have honly : ∀ z ∈ (s.lock l).holders, z.port = p := by
      rw [hy] at hp ⊢
      simpa [eq_comm] using hp
    simp only [Machine.upgrade, u, State.lock_carrying, hlen, if_true, grantAtOnce, LockRec.grant_of_no_other_holder honly]
    exact h.respond (by rfl) _ _
  · simp only [Machine.upgrade, u, State.lock_carrying, hlen, if_false, hany]
    split
    · exact h.refuse .deadlock
    · cases w with
      | tryNow => exact h.refuse .busy
      | queue =>
        have hend := h.enqueue (l := l) (deadline := deadline) .upgrade false _ (hentry false (by simp))
        simpa [queuePosition, List.findIdx_cons, entry, natByte] using hend
      | block =>
        have hend := h.enqueue (l := l) (deadline := deadline) .upgrade true _ (hentry true (by simp))
        simpa using hend

/-! ### The place of a new entry (R28) -/

/-- By priority, a new entry goes behind the last entry that is not lower, and the others keep their order. -/
theorem placeByPriority_spec (w : Waiter) (queue : List Waiter) :
    ∃ before after, queue = before ++ after ∧ placeByPriority w queue = before ++ w :: after ∧
      (∀ x ∈ before.getLast?, w.prio ≤ x.prio) ∧ (∀ x ∈ after, x.prio < w.prio) := by
  induction queue with
  | nil => exact ⟨[], [], by simp [placeByPriority]⟩
  | cons x xs ih =>
    by_cases hany : (x :: xs).any (fun y => decide (w.prio ≤ y.prio)) = true
    · obtain ⟨before, after, hsplit, hplace, hlast, hafter⟩ := ih
      refine ⟨x :: before, after, by simp [hsplit], by rw [placeByPriority, if_pos hany, hplace]; rfl, ?_, hafter⟩
      intro y hy
      cases before with
      | nil =>
        obtain rfl : x = y := by simpa using hy
        by_contra hlow
        obtain ⟨z, hz, hzp⟩ := List.any_eq_true.mp hany
        have hzp : w.prio ≤ z.prio := by simpa using hzp
        obtain rfl | hz := List.mem_cons.mp hz
        · exact hlow hzp
        · exact absurd (hafter z (by simpa [hsplit] using hz)) (not_lt.mpr hzp)
      | cons b bs => exact hlast y (by simpa using hy)
    · refine ⟨[], x :: xs, rfl, by rw [placeByPriority, if_neg hany]; rfl, by simp, ?_⟩
      simpa using hany

/-- Settles O14: behind an UPGRADE head, or from the front, the place is that of the priority. -/
theorem newWaiterTakesItsPlaceByPriority : Obligations.NewWaiterTakesItsPlaceByPriority := by
  intro w queue htail
  refine ⟨fun hw => if_pos hw, fun hw => ?_⟩
  have hother (rest : List Waiter) (hrest : ∀ x ∈ rest, x.req ≠ .upgrade) :
      ∃ before after, rest = before ++ after ∧ placeByPriority w rest = before ++ w :: after ∧
        (∀ x ∈ before.getLast?, w.prio ≤ x.prio ∨ x.req = .upgrade) ∧ (∀ x ∈ after, x.prio < w.prio ∧ x.req ≠ .upgrade) := by
    obtain ⟨before, after, hsplit, hplace, hlast, hafter⟩ := placeByPriority_spec w rest
    exact ⟨before, after, hsplit, hplace, fun x hx => .inl (hlast x hx),
      fun x hx => ⟨hafter x hx, hrest x (by simp [hsplit, hx])⟩⟩
  cases queue with
  | nil => exact ⟨[], [], rfl, by simp [insertWaiter, hw], by simp⟩
  | cons u rest =>
    by_cases hu : u.req = .upgrade
    · obtain ⟨before, after, hsplit, hplace, hlast, hafter⟩ := hother rest htail
      refine ⟨u :: before, after, by simp [hsplit], by simp [insertWaiter, hw, hu, hplace], fun x hx => ?_, hafter⟩
      cases before with
      | nil =>
        obtain rfl : u = x := by simpa using hx
        exact .inr hu
      | cons b bs => exact hlast x (by simpa using hx)
    · have hplace : insertWaiter w (u :: rest) = placeByPriority w (u :: rest) := by simp [insertWaiter, hw, hu]
      rw [hplace]
      exact hother (u :: rest) (by simpa [hu] using htail)

end Sys2Proof.Machine
end

section
/-! The release path, and the commands that give a lock back (R14, R15, R17, R18, R21, R48, R49). -/

namespace Sys2Proof.Machine

/-! ### The release path -/

section
variable {s : State} {l : LockId}

/-- The release path where a holder is left or the lock is not bound: the pass runs on what is left (R14). -/
theorem State.releasePath_of_holders {ports : List Port} (cause : Option Port)
    (h : ((s.lock l).withoutHolders ports).holders ≠ []) :
    s.releasePath l ports cause = (s.setLock l ((s.lock l).withoutHolders ports)).grantPass l cause := by
  simp [State.releasePath, h]

theorem State.releasePath_of_unbound {ports : List Port} (cause : Option Port)
    (h : ((s.lock l).withoutHolders ports).holders = []) (hg : (s.lock l).group = none) :
    s.releasePath l ports cause =
      (s.setLock l { (s.lock l).withoutHolders ports with state := .free }).grantPass l cause := by
  have hg' : ((s.lock l).withoutHolders ports).group = none := hg
  simp [State.releasePath, h, hg']

/-- A bound lock without a holder becomes VACATING and its route is broken (R14 step 5). -/
theorem State.releasePath_of_bound {ports : List Port} {g : GroupId} (cause : Option Port)
    (h : ((s.lock l).withoutHolders ports).holders = []) (hg : (s.lock l).group = some g) :
    s.releasePath l ports cause = s.vacate l ((s.lock l).withoutHolders ports) ports.head? := by
  have hg' : ((s.lock l).withoutHolders ports).group = some g := hg
  simp [State.releasePath, h, hg']

/-- A lock that vacates, with the break order at its group (R49, R64). -/
theorem State.vacate_of_bound {lk : LockRec} {g : GroupId} (hg : lk.group = some g) (from_ : Option Port) :
    s.vacate l lk from_ =
      (s.setLock l { lk with state := .vacating, vacatingFrom := from_, target := none }).setGroup g
        { s.group g with orders := (s.group g).orders ++ [.breakRoute] } := by
  simp [State.vacate, State.sendOrder, hg]

/-- Without an UPGRADE entry the release path leaves the queue as it is (R14 step 2). -/
theorem map_demoteUpgrade_of_no_upgrade {queue : List Waiter} (h : ∀ w ∈ queue, w.req ≠ .upgrade) (ports : List Port) :
    queue.map (demoteUpgrade ports) = queue := by
  conv_rhs => rw [← List.map_id queue]
  exact List.map_congr_left fun w hw => if_neg fun hu => h w hw hu.1

/-- Only a SHARED lock has an UPGRADE entry (R27). -/
theorem LockRec.Sound.no_upgrade {lk : LockRec} (h : lk.Sound l) (hs : lk.state ≠ .shared) :
    ∀ w ∈ lk.queue, w.req ≠ .upgrade := by
  obtain ⟨-, -, -, hup⟩ := h.queue
  exact fun w hw hu => hs (hup w hw hu).1

end

/-- Settles O16: the three endings are the three branches of the release path. -/
theorem releasePathOfRemovedHolders : Obligations.ReleasePathOfRemovedHolders := by
  intro s l p others cause sound removed lk holders queue
  refine ⟨fun hh => ?_, fun hh hg => ?_, fun g hh hg hs => ?_⟩
  · exact State.releasePath_of_holders cause hh
  · rw [State.releasePath_of_unbound cause hh hg, ← hh]
    rfl
  · have hqueue : lk.queue.map (demoteUpgrade removed) = lk.queue :=
      map_demoteUpgrade_of_no_upgrade (sound.no_upgrade (by rw [hs]; decide)) removed
    have htarget : lk.target = none := sound.target_eq_none (by rw [hs]; decide)
    rw [State.releasePath_of_bound cause hh hg, State.vacate_of_bound (lk := (s.lock l).withoutHolders removed) (g := g) hg]
    have hrec : ({ lk.withoutHolders removed with
        state := .vacating, vacatingFrom := removed.head?, target := none } : LockRec)
        = { lk with state := .vacating, holders := [], vacatingFrom := some p } := by
      rw [LockRec.withoutHolders, hqueue, ← htarget, ← hh]
      rfl
    exact congrArg (fun x => (s.setLock l x).setGroup g _) hrec

/-! ### RELEASE -/

/-- Settles O17: the checks of RELEASE one after the other. -/
theorem releaseChecksAndReleases : Obligations.ReleaseChecksAndReleases := by
  intro s p seq lock generation h u
  have hexec : exec (.release p seq lock generation) s = .next (carryRelease p lock generation u) := exec_instr_carriedOut h
  rw [hexec]
  refine ⟨fun hrange => congrArg _ ?_, fun l hl => ⟨fun hnone => congrArg _ ?_, fun x hx hgen => congrArg _ ?_,
    fun x hx hgen => congrArg _ ?_⟩⟩
  · simpa [carryRelease, lockArg_eq_none hrange] using h.refuse .range
  · simpa [carryRelease, lockArg_of_toNat hl, u, hnone] using h.refuse .notHeld
  · simpa [carryRelease, lockArg_of_toNat hl, u, hx, hgen] using h.refuse .stale
  · simp only [carryRelease, lockArg_of_toNat hl, u, State.lock_carrying, hx, hgen, ne_eq, not_true_eq_false, if_false]
    exact h.respond (by simp) _ _

/-! ### CANCEL and DOWNGRADE -/

section
variable {s : State} {p : Port} {seq : Byte} {l : LockId}

/-- The holding that DOWNGRADE turns SHARED is the only one of the lock (R17, R18). -/
theorem LockRec.downgraded_sole {lk : LockRec} {h : Holder} (hh : lk.holders = [h]) (hp : h.port = p) :
    lk.downgraded p = { lk with state := .shared, holders := [{ h with mode := .shared }] } := by
  simp [LockRec.downgraded, hh, hp]

/-- CANCEL with a lock in range. -/
theorem exec_cancel_carriedOut (h : CarriedOut s p seq (.cancel (argByte l))) :
    exec (.cancel p seq (argByte l)) s = .next (carryCancel p (argByte l) (s.carrying p seq (.cancel (argByte l)))) :=
  exec_instr_carriedOut h

end

/-- Settles O18: the branches of CANCEL and of DOWNGRADE. -/
theorem cancelAndDowngrade : Obligations.CancelAndDowngrade := by
  refine ⟨fun s p seq l h sound => ⟨fun hq ht => ?_, fun hq => ?_, fun g ht hg => ?_⟩,
    fun s p seq l generation h sound => ?_⟩
  · rw [exec_cancel_carriedOut h]
    have hw : ((s.lock l).waiterOf p).isSome = false := by rw [LockRec.waiterOf_eq_none.mpr hq]; rfl
    have htarget : (s.lock l).isTarget p = false := Bool.eq_false_iff.mpr (mt LockRec.isTarget_iff.mp ht)
    simpa [carryCancel, hw, htarget] using h.refuse .notWaiting
  · rw [exec_cancel_carriedOut h]
    have hw : ((s.lock l).waiterOf p).isSome = true := LockRec.waiterOf_isSome.mpr hq
    simp only [carryCancel, lockArg_argByte, State.lock_carrying, hw, if_true]
    exact congrArg _ (h.respond (by simp) _ _)
  · rw [exec_cancel_carriedOut h]
    obtain ⟨w, hw⟩ : ∃ w, (s.lock l).target = some w := by
      cases htarget : (s.lock l).target with
      | none => simp [htarget] at ht
      | some w => exact ⟨w, rfl⟩
    have hwp : w.port = p := by simpa [hw, eq_comm] using ht
    have hq : ((s.lock l).waiterOf p).isSome = false := by
      obtain ⟨-, -, hout⟩ := sound.places
      obtain ⟨-, -, hnot⟩ := hout w hw
      rw [LockRec.waiterOf_eq_none.mpr (hwp ▸ hnot)]
      rfl
    have htarget : (s.lock l).isTarget p = true := LockRec.isTarget_iff.mpr ht
    simp only [carryCancel, lockArg_argByte, State.lock_carrying, hq, htarget, if_true, Bool.false_eq_true, if_false,
      State.abortHandover, State.vacate_of_bound (g := g) hg]
    exact congrArg _ (h.respond (by rfl) _ _)
  · intro u modeRefused holds
    have hexec : exec (.downgrade p seq (argByte l) generation) s = .next (carryDowngrade p (argByte l) generation u) :=
      exec_instr_carriedOut h
    have hmode : u.refusesShared l = true ↔ modeRefused := State.refusesShared_iff
    rw [hexec]
    refine ⟨fun hr => ?_, fun hr hnone => ?_, fun hr x hx hgen => ?_, fun hr x hx hgen => ?_⟩
    · simpa [carryDowngrade, hmode.mpr hr] using h.refuse .mode
    · rw [← hmode] at hr
      cases hh : (s.lock l).holderOf p with
      | none => simpa [carryDowngrade, hr, u, hh] using h.refuse .notHeld
      | some x =>
        have hx : x.mode ≠ .exclusive := fun hx => hnone x ⟨hh, hx⟩
        simpa [carryDowngrade, hr, u, hh, hx] using h.refuse .notHeld
    · rw [← hmode] at hr
      obtain ⟨hh, hx⟩ := hx
      simpa [carryDowngrade, hr, u, hh, hx, hgen] using h.refuse .stale
    · rw [← hmode] at hr
      obtain ⟨hh, hx⟩ := hx
      obtain ⟨hmem, hp⟩ := LockRec.holderOf_eq_some hh
      obtain ⟨-, hsole⟩ := sound.sole_exclusive hmem hx
      simp only [carryDowngrade, lockArg_argByte, hr, Bool.false_eq_true, if_false, u, State.lock_carrying, hh, hx, hgen, ne_eq,
        not_true_eq_false, LockRec.downgraded_sole hsole hp]
      exact congrArg _ (h.respond (by simp) _ _)

/-! ### FORCE_RELEASE -/

/-- The REVOKED posts of some holders, in their order (R21). -/
theorem State.postRevoked_eq (s : State) (l : LockId) (reason : RevokeReason) (hs : List Holder) :
    s.postRevoked l reason hs =
      { s with lockPosts := s.lockPosts ++ hs.map fun h =>
          { port := h.port, notice := .revoked l h.gen reason, cause := none } } := by
  induction hs generalizing s with
  | nil => simp [State.postRevoked]
  | cons h hs ih => simp [State.postRevoked, ih, State.postFromLocks]

/-- Settles O19: the posts, then one release path for all holders. -/
theorem forceReleaseRemovesEveryHolder : Obligations.ForceReleaseRemovesEveryHolder := by
  intro s p seq l h hl u
  have hexec : exec (.forceRelease p seq (argByte l)) s = .next (carryForceRelease p (argByte l) u) := exec_instr_carriedOut h
  rw [hexec]
  refine ⟨fun hnone => congrArg _ ?_, fun hsome => congrArg _ ?_⟩
  · simpa [carryForceRelease, hl, u, hnone] using h.refuse .notHeld
  · simp only [carryForceRelease, lockArg_argByte, hl, if_false, u, State.lock_carrying, hsome, State.postRevoked_eq]
    exact h.respond (by rw [State.stageDeferred_releasePath]; rfl) _ _

end Sys2Proof.Machine
end

section
/-! The front command, RESET, and the checks that every frame goes through (R158, R173 to R176, R180, R193). -/

namespace Sys2Proof.Machine

/-- Settles O1: a step with a command at the front is that command with the rest of the queue. -/
theorem stepTakesTheFrontCommand : Obligations.StepTakesTheFrontCommand := fun _ _ _ => rfl

/-! ### RESET -/

/-- With every cell free the pool free count is 64 (R107). -/
theorem State.poolFree_of_free {s : State} (h : ∀ c, s.cell c = none) : s.poolFree = 64 := by
  have hall : allCells.countP s.cellFree = allCells.length :=
    List.countP_eq_length.mpr fun c _ => by simp [State.cellFree, h]
  simpa [State.poolFree, allCells] using hall

/-- With every cell free no port has a message outstanding (R109). -/
theorem State.outstanding_of_free {s : State} (h : ∀ c, s.cell c = none) (p : Port) : s.outstanding p = 0 :=
  List.countP_eq_zero.mpr fun c _ => by simp [State.cellFrom, h]

/-- The strap value as a number, and the write address it fixes (R181). -/
theorem strapValue_toNat (as1 as0 : Bool) :
    (strapValue as1 as0).toNat = 2 * as1.toNat + as0.toNat ∧
      (writeAddress (strapValue as1 as0)).toNat = 2 * (0x3C + 2 * as1.toNat + as0.toNat) := by
  cases as1 <;> cases as0 <;> decide

/-- Settles O4: RESET is the starting state with the straps sampled. -/
theorem resetCommandRestoresEveryRecord : Obligations.ResetCommandRestoresEveryRecord := by
  intro as1 as0 s
  refine ⟨_, exec_reset_eq as1 as0 s, ?_, fun p => ?_, fun p => ?_, ?_, ?_, fun p => ⟨?_, ?_, ?_⟩⟩
  · constructor <;> intros <;> first | rfl | (exfalso; simp_all [allPorts])
  · obtain ⟨hstrap, haddress⟩ := strapValue_toNat as1 as0
    simp [State.engine, Engine.reset, Record.noRecord, Config.defaultStretch, hstrap, haddress]
  · simp [State.session, State.reset, Session.reset, Config.defaultCap]
  · simp [State.cell, State.reset]
  · exact State.poolFree_of_free (by simp [State.cell, State.reset])
  · simp [State.inbound, State.reset, Inbound.reset, Config.defaultQuota, Config.defaultSendCap]
  · exact State.outstanding_of_free (by simp [State.cell, State.reset]) p
  · simp [State.limit, State.reset, PortLimits.reset, Config.defaultCap, Config.defaultQuota, Config.defaultSendCap,
      Config.defaultStretch]

/-! ### Session and authority -/

/-- Outside OPEN a command passes the session step only if it is one of the four that need no session, or CLOSE of a CLOSED port
(R174). -/
theorem HostCommand.passesSession_eq_false {cmd : HostCommand} {st : SessionState} (hst : st ≠ .opened)
    (h1 : cmd.code ≠ 0x01) (h2 : cmd.code ≠ 0x02) (h3 : cmd.code ≠ 0x14) (h4 : cmd.code ≠ 0x38)
    (hclose : cmd.code = 0x03 → st = .ending) : cmd.passesSession st = false := by
  cases cmd with
  | status => exact absurd rfl h1
  | openSession => exact absurd rfl h2
  | query => exact absurd rfl h3
  | queryRoute => exact absurd rfl h4
  | close => simp [HostCommand.passesSession, hclose rfl]
  | _ => simpa [HostCommand.passesSession] using hst

/-- An OPEN session lets every command pass (R174). -/
@[simp] theorem HostCommand.passesSession_opened (cmd : HostCommand) : cmd.passesSession .opened = true := by
  cases cmd <;> rfl

/-- The configuration commands have the codes 0x30 to 0x37 (R148). -/
theorem HostCommand.isConfiguration_of_code {cmd : HostCommand} (h1 : 0x30 ≤ cmd.code.toNat) (h2 : cmd.code.toNat ≤ 0x37) :
    cmd.isConfiguration = true := by
  cases cmd <;> first | rfl | (exfalso; simp [HostCommand.code] at h1 h2)

theorem State.hasAuthority_iff {s : State} {p : Port} :
    s.hasAuthority p = true ↔ ∃ h ∈ (s.lock 0).holders, h.port = p ∧ h.mode = .exclusive := by
  simp [State.hasAuthority]

/-! ### Arguments out of range -/

section
variable {p : Port} {s : State}

theorem within_eq_false {lo hi n : Nat} : within lo hi n = false ↔ ¬(lo ≤ n ∧ n ≤ hi) := by
  rw [← Bool.not_eq_true]
  simp [within]

theorem carryAcquire_range {lock mode wait : Byte} {deadline : Word16}
    (h : lockArg lock = none ∨ modeArg mode = none ∨ waitArg wait = none) :
    carryAcquire p lock mode wait deadline s = s.refuse p .range := by
  unfold carryAcquire
  split
  · simp_all
  · rfl

/-- A destination that is neither the broadcast nor another port is out of range (R111). -/
theorem destArg_eq_none {dest : Byte} (h : ¬(dest = 0xFF ∨ dest.toNat ≤ 3 ∧ dest.toNat ≠ p.val)) : destArg p dest = none := by
  have h1 : dest ≠ 0xFF := fun e => h (.inl e)
  rw [destArg, if_neg h1]
  by_cases hd : 3 < dest.toNat
  · rw [portArg_eq_none hd]
  · have hp : dest.toNat = p.val := by
      by_contra hne
      exact h (.inr ⟨by omega, hne⟩)
    simp [portArg_of_toNat hp]

theorem carrySend_range {dest tag flags : Byte} {payload : List Byte} (h : destArg p dest = none ∨ boolArg flags = none) :
    carrySend p dest tag flags payload s = s.refuse p .range := by
  unfold carrySend
  split
  · simp_all
  · rfl

theorem carryOpen_range {lease : Word16} {priority threshold flags : Byte}
    (h : ¬(100 ≤ lease.toNat ∧ lease.toNat ≤ 60000 ∧ priority.toNat ≤ 3 ∧ threshold.toNat ≤ 32 ∧ flags.toNat ≤ 1)) :
    carryOpen p lease priority threshold flags s = s.refuse p .range := by
  by_cases hp : 3 < priority.toNat
  · simp [carryOpen, prioArg_eq_none hp]
  by_cases hf : 1 < flags.toNat
  · simp [carryOpen, boolArg_eq_none hf]
  unfold carryOpen
  split
  · rw [if_pos]
    simp only [within_eq_false]
    omega
  · rfl

theorem carrySetPortLimits_range {port cap quota sendCap stretch : Byte}
    (h : ¬(port.toNat ≤ 3 ∧ cap.toNat ≤ 3 ∧ 1 ≤ quota.toNat ∧ quota.toNat ≤ 32 ∧ 1 ≤ sendCap.toNat ∧
      sendCap.toNat ≤ 64 ∧ 1 ≤ stretch.toNat ∧ stretch.toNat ≤ 50)) :
    carrySetPortLimits p port cap quota sendCap stretch s = s.refuse p .range := by
  by_cases hp : 3 < port.toNat
  · simp [carrySetPortLimits, portArg_eq_none hp]
  by_cases hc : 3 < cap.toNat
  · simp [carrySetPortLimits, prioArg_eq_none hc]
  unfold carrySetPortLimits
  split
  · rw [if_pos]
    simp only [within_eq_false]
    omega
  · rfl

/-- The number of L0 is 0. -/
theorem lockId_eq_zero {b : Byte} {l : LockId} (h : b.toNat = l.val) : l = 0 ↔ b.toNat = 0 := by
  rw [h, Fin.ext_iff]
  rfl

theorem carrySetLockAttr_range {lock shared : Byte} {hold : Word16}
    (h : ¬(1 ≤ lock.toNat ∧ lock.toNat ≤ 31 ∧ shared.toNat ≤ 1)) :
    carrySetLockAttr p lock shared hold s = s.refuse p .range := by
  by_cases hl : 31 < lock.toNat
  · simp [carrySetLockAttr, lockArg_eq_none hl]
  by_cases hs : 1 < shared.toNat
  · simp [carrySetLockAttr, boolArg_eq_none hs]
  have hzero : lockArg lock = some 0 := lockArg_of_toNat (show lock.toNat = 0 by omega)
  unfold carrySetLockAttr
  rw [hzero]
  split
  · next heq _ => simp at heq; simp [← heq]
  · rfl

theorem carryBindRoute_range {group lock guardTime confirmTime : Byte}
    (h : ¬(group.toNat ≤ 3 ∧ 1 ≤ lock.toNat ∧ lock.toNat ≤ 31 ∧ 1 ≤ guardTime.toNat)) :
    carryBindRoute p group lock guardTime confirmTime s = s.refuse p .range := by
  by_cases hg : 3 < group.toNat
  · simp [carryBindRoute, groupArg_eq_none hg]
  by_cases hl : 31 < lock.toNat
  · simp [carryBindRoute, lockArg_eq_none hl]
  have hb : lock.toNat = 0 ∨ guardTime = 0 := by
    by_cases hz : lock.toNat = 0
    · exact .inl hz
    · exact .inr (BitVec.eq_of_toNat_eq (by simp; omega))
  unfold carryBindRoute
  split
  · next l _ heq =>
    have hl' : lock.toNat = l.val := by
      unfold lockArg at heq
      split at heq <;> simp at heq
      simp [← heq]
    rw [if_pos (hb.imp_left (lockId_eq_zero hl').mpr)]
  · rfl

/-- Whichever argument of a command is out of its range, the command is refused with RANGE (R175). -/
theorem carryOut_range {cmd : HostCommand} (h : cmd.inRange p = false) : carryOut p cmd s = s.refuse p .range := by
  cases cmd with
  | openSession => exact carryOpen_range (by simpa only [HostCommand.inRange, decide_eq_false_iff_not] using h)
  | acquire lock mode wait deadline =>
    simp only [HostCommand.inRange, decide_eq_false_iff_not] at h
    refine carryAcquire_range ?_
    by_cases hl : 31 < lock.toNat
    · exact .inl (lockArg_eq_none hl)
    by_cases hm : 1 < mode.toNat
    · exact .inr (.inl (modeArg_eq_none hm))
    · exact .inr (.inr (waitArg_eq_none (by omega)))
  | release lock =>
    have hl : lockArg lock = none := lockArg_eq_none (by simpa [HostCommand.inRange] using h)
    simp [carryOut, carryRelease, hl]
  | cancel lock =>
    have hl : lockArg lock = none := lockArg_eq_none (by simpa [HostCommand.inRange] using h)
    simp [carryOut, carryCancel, hl]
  | downgrade lock =>
    have hl : lockArg lock = none := lockArg_eq_none (by simpa [HostCommand.inRange] using h)
    simp [carryOut, carryDowngrade, hl]
  | query lock =>
    have hl : lockArg lock = none := lockArg_eq_none (by simpa [HostCommand.inRange] using h)
    simp [carryOut, carryQuery, hl]
  | send dest tag flags payload =>
    simp only [HostCommand.inRange, decide_eq_false_iff_not] at h
    refine carrySend_range ?_
    by_cases hf : 1 < flags.toNat
    · exact .inr (boolArg_eq_none hf)
    · exact .inl (destArg_eq_none fun hd => h ⟨hd, by omega⟩)
  | setLockAttr => exact carrySetLockAttr_range (by simpa only [HostCommand.inRange, decide_eq_false_iff_not] using h)
  | setPortLimits => exact carrySetPortLimits_range (by simpa only [HostCommand.inRange, decide_eq_false_iff_not] using h)
  | bindRoute => exact carryBindRoute_range (by simpa only [HostCommand.inRange, decide_eq_false_iff_not] using h)
  | unbindRoute group =>
    have hg : groupArg group = none := groupArg_eq_none (by simpa [HostCommand.inRange] using h)
    simp [carryOut, carryUnbindRoute, hg]
  | clearRouteFault group =>
    have hg : groupArg group = none := groupArg_eq_none (by simpa [HostCommand.inRange] using h)
    simp [carryOut, carryClearRouteFault, hg]
  | queryRoute group =>
    have hg : groupArg group = none := groupArg_eq_none (by simpa [HostCommand.inRange] using h)
    simp [carryOut, carryQueryRoute, hg]
  | forceRelease lock =>
    simp only [HostCommand.inRange, decide_eq_false_iff_not] at h
    by_cases hl : 31 < lock.toNat
    · simp [carryOut, carryForceRelease, lockArg_eq_none hl]
    · have hzero : lockArg lock = some 0 := lockArg_of_toNat (show lock.toNat = 0 by omega)
      simp [carryOut, carryForceRelease, hzero]
  | expel port =>
    have hp : portArg port = none := portArg_eq_none (by simpa [HostCommand.inRange] using h)
    simp [carryOut, carryExpel, hp]
  | status | close | holdings | take | peek | flush | takeNotice | restart => simp [HostCommand.inRange] at h

end

/-- Settles O7: the session step, the authority step and the argument step of every command. -/
theorem commonChecksRefuse : Obligations.CommonChecksRefuse := by
  refine ⟨fun s p seq cmd h => ⟨fun hst h1 h2 h3 h4 hclose => ?_, fun hst h1 h2 hnone => ?_⟩, fun s p seq cmd h hrange => ?_⟩
  · have hpass : cmd.passesSession (s.session p).state = false :=
      HostCommand.passesSession_eq_false hst h1 h2 h3 h4 hclose
    rw [exec_instr_fresh h, sessionAndAuthority_noSession (by simpa using hpass), h.1.refuse_carrying]
  · have hauth : s.hasAuthority p = false := by
      rw [← Bool.not_eq_true, State.hasAuthority_iff]
      rintro ⟨x, hx, hp, hm⟩
      exact hnone x hx hp hm
    rw [exec_instr_fresh h, sessionAndAuthority_notAuthorized (by simp [hst]) (HostCommand.isConfiguration_of_code h1 h2)
      (by simpa using hauth), h.1.refuse_carrying]
  · rw [exec_instr_carriedOut h, carryOut_range hrange, h.refuse]

/-- Settles O8: the first two branches of a frame. -/
theorem framesUnseenAndFramesHeld : Obligations.FramesUnseenAndFramesHeld := by
  refine fun s p seq cmd => ⟨fun hscl => ?_, fun r hr hother hrec hlen => ?_⟩ <;> rw [exec_instr]
  · have hholds : (s.engine p).holdsScl = true := by obtain h | h := hscl <;> simp [Engine.holdsScl, h]
    rw [runFrame, if_pos hholds]
  · obtain ⟨sound, hexec, hstretch⟩ := hrec
    have hscl : (s.engine p).holdsScl = false := by
      cases he : (s.engine p).state <;> simp_all [Engine.holdsScl]
    have hheld : s.holdsFrames p = true := by simp [State.holdsFrames, hr, hother]
    simp [runFrame, hscl, hlen, hheld, Engine.completeFrame_openFrame sound hexec hstretch, State.holdFrame,
      Engine.atRepeatStep]

end Sys2Proof.Machine
end

section
/-! Commands that report: QUERY, HOLDINGS, STATUS and QUERY_ROUTE (R22, R23, R80, R102, R103). -/

namespace Sys2Proof.Machine

/-! ### Lists of slots -/

/-- The slots of a list: its entries, then the fill. -/
theorem fillSlots_getElem? {α : Type} {n : Nat} (fill : α) (xs : List α) {k : Nat} (hk : k < n) :
    (fillSlots n fill xs)[k]? = some (xs[k]?.getD fill) := by
  by_cases hx : k < xs.length
  · have hlen : k < (xs.take n).length := by simp; omega
    rw [fillSlots, List.getElem?_append_left hlen, List.getElem?_take_of_lt hk, List.getElem?_eq_getElem hx]
    rfl
  · have hlen : (xs.take n).length = xs.length := by simp; omega
    rw [fillSlots, List.getElem?_append_right (by omega), hlen,
      List.getElem?_replicate_of_lt (by omega), List.getElem?_eq_none (by omega)]
    rfl

theorem fillSlots_length {α : Type} {n : Nat} (fill : α) {xs : List α} (h : xs.length ≤ n) :
    (fillSlots n fill xs).length = n := by
  simp [fillSlots, h]

/-- In a row of slots of one size each slot stands at its multiple of the size. -/
theorem take_drop_flatten {α : Type} {m : Nat} {xss : List (List α)} (hlen : ∀ xs ∈ xss, xs.length = m) {k : Nat}
    {slot : List α} (hk : xss[k]? = some slot) : (xss.flatten.drop (m * k)).take m = slot := by
  induction xss generalizing k with
  | nil => simp at hk
  | cons xs xss ih =>
    have hx : xs.length = m := hlen xs (by simp)
    cases k with
    | zero =>
      obtain rfl : xs = slot := by simpa using hk
      simp [← hx]
    | succ k =>
      have hdrop : (xs ++ xss.flatten).drop (m * (k + 1)) = xss.flatten.drop (m * k) := by
        rw [List.drop_append, List.drop_eq_nil_of_le (by rw [hx, Nat.mul_succ]; omega), hx, Nat.mul_succ,
          Nat.add_sub_cancel, List.nil_append]
      rw [List.flatten_cons, hdrop]
      exact ih (fun ys hy => hlen ys (by simp [hy])) (by simpa using hk)

theorem length_flatten_of_length {α : Type} {m : Nat} {xss : List (List α)} (hlen : ∀ xs ∈ xss, xs.length = m) :
    xss.flatten.length = m * xss.length := by
  induction xss with
  | nil => simp
  | cons xs xss ih =>
    simp [ih fun ys hy => hlen ys (by simp [hy]), hlen xs (by simp), Nat.mul_succ, Nat.add_comm]

/-- Under an order each entry of a list stands behind as many entries as are below it. -/
theorem getElem?_countP_lt {α : Type} (f : α → Nat) {xs : List α} (hsorted : xs.Pairwise fun a b => f a < f b) {x : α}
    (hx : x ∈ xs) : xs[xs.countP fun y => decide (f y < f x)]? = some x := by
  induction xs with
  | nil => simp at hx
  | cons a as ih =>
    obtain ⟨ha, has⟩ := List.pairwise_cons.mp hsorted
    obtain rfl | hx := List.mem_cons.mp hx
    · have hnone : as.countP (fun y => decide (f y < f x)) = 0 :=
        List.countP_eq_zero.mpr fun y hy => by simpa using (ha y hy).le
      simp [hnone]
    · simpa [List.countP_cons, ha x hx] using ih has hx

/-! ### QUERY -/

section
variable {lk : LockRec} {l : LockId}

/-- The holders in ascending order of port, as QUERY reports them (R22). -/
def LockRec.holdersByPort (lk : LockRec) : List Holder := allPorts.filterMap lk.holderOf

/-- A holder slot: port, mode and generation. -/
def Holder.slot (h : Holder) : List Byte := [natByte h.port.val, h.mode.code] ++ wordBytes h.gen

theorem LockRec.holderSlots_eq (lk : LockRec) :
    lk.holderSlots = (fillSlots 4 [absentByte, absentByte, absentByte, absentByte] (lk.holdersByPort.map Holder.slot)).flatten := by
  rw [LockRec.holderSlots, LockRec.holdersByPort, List.map_filterMap]
  rfl

theorem LockRec.Sound.holderPorts_nodup (h : lk.Sound l) : (lk.holders.map Holder.port).Nodup := by
  obtain ⟨hexcl, hshared, hnone, -⟩ := h.holders
  by_cases h1 : lk.state = .exclusive
  · obtain ⟨x, hx⟩ := List.length_eq_one_iff.mp (hexcl h1).1
    simp [hx]
  by_cases h2 : lk.state = .shared
  · exact (hshared h2).2.2
  · simp [hnone h1 h2]

/-- A list of distinct ports has at most four of them. -/
theorem length_le_four {ports : List Port} (h : ports.Nodup) : ports.length ≤ 4 := by
  simpa using h.length_le_card



theorem LockRec.mem_holdersByPort (hnodup : (lk.holders.map Holder.port).Nodup) (x : Holder) :
    x ∈ lk.holdersByPort ↔ x ∈ lk.holders := by
  simp only [LockRec.holdersByPort, List.mem_filterMap]
  constructor
  · rintro ⟨q, -, hq⟩
    exact (LockRec.holderOf_eq_some hq).1
  · exact fun hx => ⟨x.port, List.mem_finRange _, LockRec.holderOf_mem hnodup hx⟩

/-- QUERY's order is that of the ports. -/
theorem LockRec.holdersByPort_sorted (lk : LockRec) :
    lk.holdersByPort.Pairwise fun a b => a.port.val < b.port.val := by
  refine List.Pairwise.filterMap _ ?_ (List.pairwise_lt_finRange 4)
  intro q r hqr a ha b hb
  rw [(LockRec.holderOf_eq_some ha).2, (LockRec.holderOf_eq_some hb).2]
  exact hqr

/-- QUERY reports the same holders as the lock has, in another order. -/
theorem LockRec.holdersByPort_perm (hnodup : (lk.holders.map Holder.port).Nodup) : lk.holdersByPort.Perm lk.holders := by
  have hsorted : lk.holdersByPort.Nodup :=
    lk.holdersByPort_sorted.imp fun {a b} hab => fun e : a = b => by simp [e] at hab
  exact (List.perm_ext_iff_of_nodup hsorted (List.Nodup.of_map _ hnodup)).mpr fun x => LockRec.mem_holdersByPort hnodup x

/-- The target byte names the handover target or the vacating port, whichever there is (R22). -/
theorem LockRec.Sound.targetByte_eq (h : lk.Sound l) :
    lk.targetByte = portByte (lk.target.map Waiter.port <|> lk.vacatingFrom) := by
  have hfrom (hs : lk.state ≠ .vacating) : lk.vacatingFrom = none := h.vacatingFrom_eq_none hs
  have htarget (hs : lk.state ≠ .handover) : lk.target = none := h.target_eq_none hs
  cases hs : lk.state with
  | handover => rw [hfrom (by simp [hs])]; cases ht : lk.target <;> simp [LockRec.targetByte, hs, ht]
  | vacating => rw [htarget (by simp [hs])]; simp [LockRec.targetByte, hs]
  | free | exclusive | shared | faulted =>
    rw [hfrom (by simp [hs]), htarget (by simp [hs])]
    simp [LockRec.targetByte, hs, portByte]

theorem LockRec.Sound.holderSlots_length (h : lk.Sound l) : lk.holderSlots.length = 16 := by
  have hle : lk.holdersByPort.length ≤ 4 := by
    rw [(LockRec.holdersByPort_perm h.holderPorts_nodup).length_eq]
    simpa using length_le_four h.holderPorts_nodup
  rw [LockRec.holderSlots_eq, length_flatten_of_length (m := 4), fillSlots_length _ (by simpa using hle)]
  simp only [fillSlots, List.mem_append, List.mem_replicate]
  rintro xs (hxs | ⟨-, rfl⟩)
  · obtain ⟨x, -, rfl⟩ := List.mem_map.mp (List.mem_of_mem_take hxs)
    rfl
  · rfl

/-- The kth slot of QUERY's holders. -/
theorem LockRec.take_drop_holderSlots {k : Nat} (hk : k < 4) :
    (lk.holderSlots.drop (4 * k)).take 4 =
      (lk.holdersByPort[k]?.map Holder.slot).getD [absentByte, absentByte, absentByte, absentByte] := by
  rw [LockRec.holderSlots_eq]
  refine take_drop_flatten ?_ ((fillSlots_getElem? _ _ hk).trans (by simp))
  simp only [fillSlots, List.mem_append, List.mem_replicate]
  rintro xs (hxs | ⟨-, rfl⟩)
  · obtain ⟨x, -, rfl⟩ := List.mem_map.mp (List.mem_of_mem_take hxs)
    rfl
  · rfl

/-- The first eight bytes of QUERY data. -/
def LockRec.queryHead (lk : LockRec) : List Byte :=
  [lk.state.code, boolByte lk.sharedAllowed] ++ wordBytes lk.holdLimit ++ [portByte lk.group] ++ wordBytes lk.gen ++
    [natByte lk.holders.length]

theorem LockRec.queryData_eq (lk : LockRec) :
    lk.queryData = lk.queryHead ++ (lk.holderSlots ++ (natByte lk.queue.length :: (lk.waiterSlots ++ [lk.targetByte]))) := by
  simp [LockRec.queryData, LockRec.queryHead]

theorem LockRec.Sound.waiterSlots_length (h : lk.Sound l) : lk.waiterSlots.length = 4 :=
  fillSlots_length _ (by simpa using length_le_four h.ports_nodup)

theorem LockRec.Sound.queryData_length (h : lk.Sound l) : lk.queryData.length = 30 := by
  rw [LockRec.queryData_eq]
  simp [h.holderSlots_length, h.waiterSlots_length, LockRec.queryHead, wordBytes]

/-- The slot region of QUERY data. -/
theorem LockRec.Sound.take_drop_queryData (h : lk.Sound l) {k : Nat} (hk : k < 4) :
    (lk.queryData.drop (8 + 4 * k)).take 4 = (lk.holderSlots.drop (4 * k)).take 4 := by
  have hhead : lk.queryHead.length = 8 := rfl
  rw [LockRec.queryData_eq, List.drop_append, List.drop_eq_nil_of_le (by omega), hhead, Nat.add_sub_cancel_left,
    List.nil_append, List.drop_append_of_le_length (by rw [h.holderSlots_length]; omega),
    List.take_append_of_le_length (by rw [List.length_drop, h.holderSlots_length]; omega)]

/-- The bytes behind the holder slots. -/
theorem LockRec.Sound.queryData_tail (h : lk.Sound l) (k : Nat) :
    lk.queryData[24 + k]? = (natByte lk.queue.length :: (lk.waiterSlots ++ [lk.targetByte]))[k]? := by
  have hhead : (lk.queryHead ++ lk.holderSlots).length = 24 := by
    rw [List.length_append, h.holderSlots_length]
    rfl
  rw [LockRec.queryData_eq, ← List.append_assoc, List.getElem?_append_right (by omega), hhead, Nat.add_sub_cancel_left]

end

/-! ### STATUS -/

section
variable {s : State}

theorem portByte_authorityHolder_of_none (h : ∀ q, s.hasAuthority q = false) : portByte s.authorityHolder = 0xFF := by
  have hnone : s.authorityHolder = none := List.find?_eq_none.mpr fun q _ => by simp [h]
  rw [hnone]
  rfl

/-- The one holder of L0 with authority is the authority holder (R102). -/
theorem portByte_authorityHolder_of_some {q : Port} (hsole : (s.lock 0).holders.map Holder.port = [q])
    (hq : s.hasAuthority q = true) : portByte s.authorityHolder = natByte q.val := by
  have honly (r : Port) (hr : s.hasAuthority r = true) : r = q := by
    obtain ⟨x, hx, rfl, -⟩ := State.hasAuthority_iff.mp hr
    simpa [hsole] using List.mem_map_of_mem (f := Holder.port) hx
  have hsome : s.authorityHolder = some q := by
    cases hfind : s.authorityHolder with
    | none => exact absurd hq (by simpa using List.find?_eq_none.mp hfind q (List.mem_finRange q))
    | some r => rw [honly r (List.find?_some hfind)]
  rw [hsome]
  rfl

theorem statusFlags_eq (a b : Bool) : statusFlags a b = boolByte a + 2 * boolByte b := by
  cases a <;> cases b <;> decide

theorem messageFlags_eq (a b : Bool) : messageFlags a b = boolByte a + 2 * boolByte b := by
  cases a <;> cases b <;> decide

theorem Group.linesByte_eq (g : Group) :
    g.linesByte = boolByte g.enable + 2 * boolByte g.senseFiltered + 4 * boolByte g.clearing := by
  unfold Group.linesByte
  cases g.enable <;> cases g.senseFiltered <;> cases g.clearing <;> decide

end

/-- Settles O20: QUERY's bytes part by part, HOLDINGS set by set. -/
theorem queryAndHoldingsReportLocks : Obligations.QueryAndHoldingsReportLocks := by
  refine ⟨fun s p seq l h sound => ⟨(s.lock l).queryData, ?_, sound.queryData_length, rfl, fun x hx k hk => ?_,
    fun k hk hk4 => ?_, ?_, fun k hk => ?_, ?_⟩, fun s p seq h => ?_⟩
  · refine (exec_instr_carriedOut h).trans (congrArg _ ?_)
    simpa [carryOut, carryQuery] using h.respond (by rfl) _ _
  · have hperm := LockRec.holdersByPort_perm sound.holderPorts_nodup
    have hcount : k = (s.lock l).holdersByPort.countP fun y => decide (y.port.val < x.port.val) := by
      rw [hk, ← hperm.countP_eq]
      rfl
    have hmem : x ∈ (s.lock l).holdersByPort := hperm.mem_iff.mpr hx
    have hslot := getElem?_countP_lt (fun y : Holder => y.port.val) (s.lock l).holdersByPort_sorted hmem
    rw [← hcount] at hslot
    have hk4 : k < 4 := by
      have hlt : k < (s.lock l).holdersByPort.length := (List.getElem?_eq_some_iff.mp hslot).1
      have hle : (s.lock l).holders.length ≤ 4 := by simpa using length_le_four sound.holderPorts_nodup
      rw [hperm.length_eq] at hlt
      omega
    rw [sound.take_drop_queryData hk4, LockRec.take_drop_holderSlots hk4, hslot]
    rfl
  · rw [sound.take_drop_queryData hk4, LockRec.take_drop_holderSlots hk4, List.getElem?_eq_none]
    · rfl
    · rwa [(LockRec.holdersByPort_perm sound.holderPorts_nodup).length_eq]
  · exact sound.queryData_tail 0
  · have hlen : k < (s.lock l).waiterSlots.length := by rw [sound.waiterSlots_length]; exact hk
    rw [show 25 + k = 24 + (k + 1) by omega, sound.queryData_tail, List.getElem?_cons_succ,
      List.getElem?_append_left hlen, LockRec.waiterSlots, fillSlots_getElem? _ _ hk]
    simp only [List.getElem?_map]
    cases (s.lock l).queue[k]? <;> rfl
  · rw [show 29 = 24 + (4 + 1) from rfl, sound.queryData_tail, List.getElem?_cons_succ, List.getElem?_append_right
      sound.waiterSlots_length.le, sound.waiterSlots_length, ← sound.targetByte_eq]
    rfl
  · refine ⟨lockSet fun l => (s.lock l).heldBy p .exclusive, lockSet fun l => (s.lock l).heldBy p .shared,
      lockSet fun l => (s.lock l).waitsFor p, lockSet fun l => (s.lock l).blocks p, ?_, fun l => ⟨?_, ?_, ?_, ?_⟩⟩
    · exact (exec_instr_carriedOut h).trans (congrArg _ (h.respond (by rfl) _ _))
    · simp [lockSet, LockRec.heldBy]
    · simp [lockSet, LockRec.heldBy]
    · simpa [lockSet] using LockRec.waitsFor_iff
    · cases htarget : (s.lock l).target <;> simp [lockSet, LockRec.blocks, htarget]

/-- Settles O21: the two reports byte by byte. -/
theorem statusAndQueryRouteReport : Obligations.StatusAndQueryRouteReport := by
  refine ⟨fun s p seq h => ?_, fun s p seq g h => ?_⟩
  · intro u x
    refine ⟨portByte s.authorityHolder, portByte_authorityHolder_of_none, fun q => portByte_authorityHolder_of_some, ?_⟩
    refine (exec_instr_carriedOut h).trans (congrArg _ ?_)
    have hdata : u.statusData p = [x.state.code, x.endReason.code, x.epoch, natByte x.prio.val] ++ wordBytes x.lease ++
        [natByte (s.noticeQueue p).records.length, natByte (s.inbound p).queue.length,
          natByte (allCells.countP fun c => (s.cell c).isNone), portByte s.authorityHolder,
          boolByte (s.noticeQueue p).lost + 2 * boolByte (u.engine p).linkError, (s.engine p).strap.setWidth 8] := by
      have hx : u.session p = x := by simp [u, x]
      have hstrap : (u.engine p).strap = (s.engine p).strap := by simp [u, Engine.carrying]
      rw [State.statusData, hx, hstrap, statusFlags_eq]
      rfl
    rw [carryOut, carryStatus, hdata]
    exact h.respond (by simp) _ _
  · refine (exec_instr_carriedOut h).trans (congrArg _ ?_)
    rw [carryOut, carryQueryRoute, groupArg_argByte, ← Group.linesByte_eq]
    refine (h.respond (by rfl) _ _).trans ?_
    simp only [Group.queryData, State.group_carrying]
    cases (s.group g).lock <;> rfl

end Sys2Proof.Machine
end

section
/-! Messages and notices (R107, R111 to R121, R130 to R139, R146). -/

namespace Sys2Proof.Machine

/-! ### Letting go of a reference -/

section
variable {s : State} {p : Port}

/-- The receipt that a port owes for a message, if it owes one: requested, and the sender's session OPEN with the source epoch
(R121). -/
def State.owedReceipt (s : State) (p : Port) (outcome : ReceiptOutcome) (cause : Option Port) (x : Cell) : Option Post :=
  if x.receipt = true ∧ (s.session x.source).state = .opened ∧ (s.session x.source).epoch = x.epoch then
    some { port := x.source, notice := .receipt p x.number outcome, cause := cause }
  else none

/-- Letting go of a cell in use lowers its count and posts the receipt that is owed (R107, R121). -/
theorem State.release_of_cell {c : CellId} {x : Cell} (hx : s.cell c = some x) (outcome : ReceiptOutcome)
    (cause : Option Port) :
    s.release p c outcome cause =
      { s.setCell c x.letGo with messagePosts := s.messagePosts ++ (s.owedReceipt p outcome cause x).toList } := by
  simp only [State.release, hx, State.postReceipt, State.sessionIs_iff, State.session_setCell, State.owedReceipt]
  split
  · rfl
  · simp [State.setCell]

/-- The flush lets go of each cell it finds in the queue, and posts the receipts in queue order (R120). -/
theorem State.releaseAll_eq {cs : List CellId} (cause : Option Port) (hnodup : cs.Nodup)
    (huse : ∀ c ∈ cs, ∃ x, s.cell c = some x) :
    (s.releaseAll p cause cs).messagePosts =
        s.messagePosts ++ cs.filterMap (fun c => (s.cell c).bind (s.owedReceipt p .discarded cause)) ∧
      (∀ c, (s.releaseAll p cause cs).cell c = if c ∈ cs then (s.cell c).bind Cell.letGo else s.cell c) := by
  induction cs generalizing s with
  | nil => simp [State.releaseAll]
  | cons c cs ih =>
    obtain ⟨hc, hcs⟩ := List.nodup_cons.mp hnodup
    obtain ⟨x, hx⟩ := huse c (by simp)
    set u : State :=
      { s.setCell c x.letGo with messagePosts := s.messagePosts ++ (s.owedReceipt p .discarded cause x).toList } with hu
    have hcell (d : CellId) : u.cell d = if c = d then x.letGo else s.cell d := State.cell_setCell s c d _
    have hkept (d : CellId) (hd : d ∈ cs) : u.cell d = s.cell d := by
      rw [hcell, if_neg]
      rintro rfl
      exact hc hd
    obtain ⟨hposts, hcells⟩ := ih (s := u) hcs fun d hd => by
      rw [hkept d hd]
      exact huse d (by simp [hd])
    rw [State.releaseAll, State.release_of_cell hx, ← hu]
    refine ⟨?_, fun d => ?_⟩
    · have hsame : cs.filterMap (fun d => (u.cell d).bind (u.owedReceipt p .discarded cause)) =
          cs.filterMap fun d => (s.cell d).bind (s.owedReceipt p .discarded cause) :=
        List.filterMap_congr fun d hd => by rw [hkept d hd]; rfl
      have hfirst : u.messagePosts = s.messagePosts ++ (s.owedReceipt p .discarded cause x).toList := rfl
      rw [hposts, hsame, hfirst, List.filterMap_cons, hx, Option.bind_some]
      cases s.owedReceipt p .discarded cause x <;> simp
    · rw [hcells d, hcell]
      by_cases hd : d ∈ cs
      · have hne : c ≠ d := by
          rintro rfl
          exact hc hd
        rw [if_pos hd, if_pos (List.mem_cons_of_mem c hd), if_neg hne]
      · by_cases hcd : c = d
        · subst hcd
          simp [hd, hx]
        · simp [hd, hcd, Ne.symm hcd]

/-- A named cell of a sound pool is in use. -/
theorem State.PoolSound.cell_of_named (h : s.PoolSound) {q : Port} {c : CellId} (hc : c ∈ (s.inbound q).queue) :
    ∃ x, s.cell c = some x := by
  obtain ⟨hfree, -⟩ := h.1 c
  cases hx : s.cell c with
  | some x => exact ⟨x, rfl⟩
  | none =>
    have hnone := List.countP_eq_zero.mp (hfree hx) q (List.mem_finRange q)
    simp [hc] at hnone

end

/-- Settles O22: TAKE lets go of the head, PEEK reports it. -/
theorem takeAndPeekReturnTheOldestMessage : Obligations.TakeAndPeekReturnTheOldestMessage := by
  intro s p seq htake hpeek
  have hexecTake : exec (.take p seq) s = .next (carryTake p (s.carrying p seq .take)) := exec_instr_carriedOut htake
  have hexecPeek : exec (.peek p seq) s = .next (carryPeek p (s.carrying p seq .peek)) := exec_instr_carriedOut hpeek
  rw [hexecTake, hexecPeek]
  refine ⟨fun hq => ?_, fun c rest x hq hx => ?_⟩
  · simp only [carryTake, carryPeek, State.inbound_carrying, hq]
    exact ⟨congrArg _ (htake.respond (by rfl) _ _), congrArg _ (hpeek.respond (by rfl) _ _)⟩
  · intro data u
    have hdata (v : State) (hv : v.cell c = s.cell c) : v.messageData c = data := by
      simp [State.messageData, hv, hx, Cell.recordData, messageFlags_eq, data]
    simp only [carryTake, carryPeek, State.inbound_carrying, hq]
    rw [hdata _ (by rfl), hdata _ (by rfl), State.release_of_cell (x := x) (by simpa using hx)]
    have howed (v : State) (hv : ∀ q, (v.session q).state = (s.session q).state ∧ (v.session q).epoch = (s.session q).epoch) :
        s.messagePosts ++ (v.owedReceipt p .taken none x).toList =
          if x.receipt = true ∧ (s.session x.source).state = .opened ∧ (s.session x.source).epoch = x.epoch then
            s.messagePosts ++ [{ port := x.source, notice := .receipt p x.number .taken, cause := none }]
          else s.messagePosts := by
      simp only [State.owedReceipt, hv]
      split <;> simp
    have hsession (q : Port) : ((s.carrying p seq .take).session q).state = (s.session q).state ∧
        ((s.carrying p seq .take).session q).epoch = (s.session q).epoch := by
      rw [State.session_carrying]
      split
      · next h => subst h; simp
      · simp
    have hposts := howed ((s.carrying p seq .take).setInbound p { s.inbound p with queue := rest }) hsession
    refine ⟨congrArg _ ((htake.respond (by rfl) _ _).trans ?_), congrArg _ (hpeek.respond (by rfl) _ _)⟩
    rw [show ((s.carrying p seq .take).setInbound p { s.inbound p with queue := rest }).messagePosts = s.messagePosts from rfl,
      hposts]
    rfl

/-! ### The flush -/

section
variable {s : State} {p : Port}

/-- A block step that is due is carried out and marked. -/
theorem State.blockStepDue_eq_true {step : TeardownStep} {t : Teardown} (ht : s.teardownStep p = some t)
    (hstep : t.step = step) (htaken : t.taken = false) : s.blockStepDue p step = true := by
  simp [State.blockStepDue, ht, hstep, htaken]

@[simp] theorem State.session_flushQueue (k : Option Port) (q : Port) : (s.flushQueue p k).session q = s.session q := by
  rw [State.flushQueue_frame]; rfl

theorem State.engine_flushQueue (k : Option Port) (q : Port) : (s.flushQueue p k).engine q = s.engine q := by
  rw [State.flushQueue_frame]; rfl

end

/-- Settles O23: the flush is the release of every reference in turn; the FLUSH command and the teardown step run it. -/
theorem flushEmptiesOneQueue : Obligations.FlushEmptiesOneQueue := by
  refine ⟨fun s p cause sound => ?_, fun s p seq h => ?_, fun s p t ht hstep htaken => ?_⟩
  · intro t
    obtain ⟨hnodup, -⟩ := sound.2 p
    set u := s.setInbound p { s.inbound p with queue := [] } with hu
    have huse (c : CellId) (hc : c ∈ (s.inbound p).queue) : ∃ x, u.cell c = some x := sound.cell_of_named hc
    obtain ⟨hposts, hcells⟩ := State.releaseAll_eq (p := p) cause hnodup huse
    have hframe : t = { s with cells := t.cells, inbounds := u.inbounds, messagePosts := t.messagePosts } := by
      simp only [t, State.flushQueue]
      rw [State.releaseAll_frame]
      rfl
    have hinbound (q : Port) : t.inbound q = u.inbound q := by rw [hframe]; rfl
    refine ⟨by rw [hinbound, hu]; simp, fun c hc => (hcells c).trans (if_neg hc), fun c hc => ?_, hposts, ?_⟩
    · obtain ⟨x, hx⟩ := huse c hc
      obtain ⟨hrefs, -⟩ := (sound.1 c).2 x hx
      refine ⟨x, hx, (hcells c).trans ?_⟩
      rw [if_pos hc, hx]
      simp only [Option.bind_some, Cell.letGo]
      exact if_congr (by omega) rfl rfl
    · constructor
      case cells => exact fun c hc => (hcells c).trans (if_neg hc)
      case inbounds =>
        intro q hq
        rw [hinbound, hu, State.inbound_setInbound, if_neg]
        rintro rfl
        simp at hq
      case messagePosts => simp
      case msPhase | sclSample | pending => rw [hframe]
      all_goals (rw [hframe]; intros; rfl)
  · exact (exec_instr_carriedOut h).trans (congrArg _ (h.respond (by rw [State.engine_flushQueue]) _ _))
  · change execTeardownFlush p s = _
    simp only [execTeardownFlush, State.blockStepDue_eq_true ht hstep htaken, ht, State.markBlock, State.session_flushQueue]

/-! ### SEND -/

section
variable {s : State} {p : Port}

/-- The new reference goes to the tail of the queue of each destination, once (R114 step 4). -/
theorem State.inbound_appendReferences {c : CellId} {qs : List Port} (hnodup : qs.Nodup) (q : Port) :
    (s.appendReferences c qs).inbound q =
      { s.inbound q with queue := if q ∈ qs then (s.inbound q).queue ++ [c] else (s.inbound q).queue } := by
  induction qs generalizing s with
  | nil => simp [State.appendReferences]
  | cons r rs ih =>
    obtain ⟨hr, hrs⟩ := List.nodup_cons.mp hnodup
    rw [State.appendReferences, ih hrs, State.inbound_setInbound]
    by_cases hq : r = q
    · subst hq
      simp [hr]
    · simp [hq, Ne.symm hq]

/-- A pool with a free cell has one to take (R107). -/
theorem State.freeCell_of_poolFree (h : 0 < s.poolFree) : ∃ c, s.freeCell = some c ∧ s.cell c = none := by
  obtain ⟨c, hc, hfree⟩ := List.countP_pos_iff.mp h
  cases hf : s.freeCell with
  | none => exact absurd hfree (by simpa using List.find?_eq_none.mp hf c hc)
  | some d => exact ⟨d, rfl, by simpa [State.cellFree] using List.find?_some hf⟩

theorem State.freeCell_eq_none (h : s.poolFree = 0) : s.freeCell = none :=
  List.find?_eq_none.mpr (List.countP_eq_zero.mp h)

/-- The destinations that a dest byte means (R111, R112): the byte, its target and the set of present ports. -/
def MeansDestinations (s : State) (p : Port) (dest : Byte) (dests : List Port) : Prop :=
  dest = 0xFF ∧ dests = (allPorts.filter fun q => decide (q ≠ p ∧ (s.session q).state = .opened)) ∨
    ∃ q, dest = argByte q ∧ q ≠ p ∧ dests = if (s.session q).state = .opened then [q] else []

theorem argByte_port_ne_broadcast (q : Port) : argByte q ≠ 0xFF := by
  fin_cases q <;> decide

/-- What a dest byte means is what SEND reads from it. -/
theorem MeansDestinations.destArg {dest : Byte} {dests : List Port} (h : MeansDestinations s p dest dests) {u : State}
    (hu : ∀ q, (u.session q).state = (s.session q).state) :
    ∃ target, destArg p dest = some target ∧ u.destinations p target = dests ∧ target.isNone = decide (dest = 0xFF) := by
  obtain ⟨rfl, hdests⟩ | ⟨q, rfl, hq, hdests⟩ := h
  · refine ⟨none, rfl, ?_, rfl⟩
    rw [hdests]
    exact List.filter_congr fun q _ => by simp [State.present, hu]
  · refine ⟨some q, ?_, ?_, ?_⟩
    · rw [Machine.destArg, if_neg (argByte_port_ne_broadcast q), portArg_argByte]
      exact if_neg hq
    · simp [State.destinations, State.present, hu, hdests]
    · exact (decide_eq_false (argByte_port_ne_broadcast q)).symm

/-- No port is a destination of its own message, and none is one twice (R111, R112). -/
theorem MeansDestinations.spec {dest : Byte} {dests : List Port} (h : MeansDestinations s p dest dests) :
    dests.Nodup ∧ p ∉ dests := by
  obtain ⟨-, rfl⟩ | ⟨q, -, hq, rfl⟩ := h
  · exact ⟨(List.nodup_finRange 4).filter _, by simp⟩
  · split <;> simp [hq.symm]

end

section
variable {s : State} {p : Port} {seq : Byte} {cmd : HostCommand}

theorem State.session_state_carrying (q : Port) : ((s.carrying p seq cmd).session q).state = (s.session q).state := by
  rw [State.session_carrying]
  split
  · next h => subst h; simp
  · rfl

@[simp] theorem State.queueFull_iff (q : Port) :
    s.queueFull q = true ↔ (s.inbound q).quota.toNat ≤ (s.inbound q).queue.length := by simp [State.queueFull]

@[simp] theorem State.capReached_iff : s.capReached p = true ↔ (s.inbound p).sendCap.toNat ≤ s.outstanding p := by
  simp [State.capReached]

end

/-- SEND that passes its checks (R114): the part afterwards, record by record. -/
theorem exec_send_accepted {s : State} {p : Port} {seq dest tag : Byte} {receipt : Bool} {payload : List Byte}
    {dests : List Port} (h : CarriedOut s p seq (.send dest tag (boolByte receipt) payload))
    (hmeans : MeansDestinations s p dest dests) (hne : dests ≠ [])
    (hroom : ∀ q ∈ dests, (s.inbound q).queue.length < (s.inbound q).quota.toNat)
    (hcap : s.outstanding p < (s.inbound p).sendCap.toNat) (hfree : 0 < s.poolFree) :
    ∃ c, s.cell c = none ∧ exec (.send p seq dest tag (boolByte receipt) payload) s = .next
      (acceptSend p tag receipt (decide (dest = 0xFF)) payload dests c
        (s.carrying p seq (.send dest tag (boolByte receipt) payload))) := by
  set u := s.carrying p seq (.send dest tag (boolByte receipt) payload) with hu
  obtain ⟨c, hc, hcell⟩ := State.freeCell_of_poolFree hfree
  obtain ⟨target, htarget, hdests, hbroadcast⟩ := hmeans.destArg (u := u) fun q => State.session_state_carrying q
  have hfull : ¬dests.any u.queueFull = true := by
    simp only [List.any_eq_true, State.queueFull_iff, not_exists, not_and, not_le]
    exact hroom
  have hcapped : ¬u.capReached p = true := by
    rw [State.capReached_iff]
    exact not_le.mpr hcap
  refine ⟨c, hcell, (exec_instr_carriedOut h).trans (congrArg _ ?_)⟩
  have hc' : u.freeCell = some c := hc
  simp only [carryOut, carrySend, htarget, boolArg_boolByte, ← hu, hdests, hne, if_false, hfull, hcapped, hc', hbroadcast,
    Bool.false_eq_true]

/-- Settles O24: an accepted SEND record by record, and the refusals in their order. -/
theorem sendFillsACellOrIsRefused : Obligations.SendFillsACellOrIsRefused := by
  refine ⟨fun s p seq dest tag receipt payload dests h hdests hne hroom hcap hfree => ?_,
    fun s p seq dest tag receipt payload dests h hdests => ?_⟩
  · intro number
    have hmeans : MeansDestinations s p dest dests := by
      obtain hb | ⟨q, hq, hqp, ho, hd⟩ := hdests
      · exact .inl hb
      · exact .inr ⟨q, hq, hqp, by simp [ho, hd]⟩
    obtain ⟨hnodup, hself⟩ := hmeans.spec
    obtain ⟨c, hcell, hexec⟩ := exec_send_accepted h hmeans hne hroom hcap hfree
    refine ⟨c, _, hcell, hexec, ?_⟩
    set u := s.carrying p seq (.send dest tag (boolByte receipt) payload) with hu
    set cell := u.newCell p tag receipt (decide (dest = 0xFF)) payload dests with hcelldef
    have hepoch : (u.session p).epoch = (s.session p).epoch := by simp [hu]
    have hnumber : cell.number = number := rfl
    set v := (((u.setInbound p { u.inbound p with number := number }).setCell c (some cell)).appendReferences c dests) with hv
    have hframe : v = { u.setCell c (some cell) with inbounds := v.inbounds } := by
      rw [hv, State.appendReferences_frame]
      rfl
    have hengine (q : Port) : v.engine q = u.engine q := by rw [hframe]; rfl
    have haccept : acceptSend p tag receipt (decide (dest = 0xFF)) payload dests c u =
        v.answer p .ok (wordBytes number ++ [portSetByte fun q => decide (q ∈ dests)]) :=
      h.respond (congrArg Engine.stageDeferred (hengine p)) _ _
    have hinbound (q : Port) : v.inbound q =
        { s.inbound q with
          number := if q = p then number else (s.inbound q).number
          queue := if q ∈ dests then (s.inbound q).queue ++ [c] else (s.inbound q).queue } := by
      rw [hv, State.inbound_appendReferences hnodup]
      by_cases hq : q = p
      · subst hq
        simp [hself, hu]
      · simp [hq, Ne.symm hq, hu]
    rw [haccept]
    refine ⟨?_, ?_, ?_, hinbound, ?_⟩
    · simp only [State.answer, State.engine_setEngine, if_true, hengine]
    · have hsession : (v.answer p .ok (wordBytes number ++ [portSetByte fun q => decide (q ∈ dests)])).session p = u.session p := by
        rw [hframe]; rfl
      rw [hsession, hu]
      simp
    · have hcell' : (v.answer p .ok (wordBytes number ++ [portSetByte fun q => decide (q ∈ dests)])).cell c =
          (u.setCell c (some cell)).cell c := by
        rw [hframe]; rfl
      rw [hcell', State.cell_setCell, if_pos rfl, hcelldef, State.newCell, hepoch]
      rfl
    · constructor
      case inbounds => exact fun q hq => absurd (List.mem_finRange q) hq
      case engines =>
        intro q hq
        have hne : p ≠ q := by rintro rfl; simp at hq
        simp [State.answer, hne, hengine, hu]
      case sessions =>
        intro q hq
        have hne : p ≠ q := by rintro rfl; simp at hq
        simp only [State.answer, State.session_setEngine]
        rw [hframe]
        exact (State.session_carrying s p q _ _).trans (if_neg hne)
      case cells =>
        intro d hd
        have hne : c ≠ d := by rintro rfl; simp at hd
        simp only [State.answer, State.cell_setEngine]
        rw [hframe]
        exact (State.cell_setCell u c d _).trans (if_neg hne)
      all_goals (rw [hframe]; intros; rfl)
  · intro full capped refused
    have hmeans : MeansDestinations s p dest dests := hdests
    set u := s.carrying p seq (.send dest tag (boolByte receipt) payload) with hu
    obtain ⟨target, htarget, hdest, -⟩ := hmeans.destArg (u := u) fun q => State.session_state_carrying q
    have hexec : exec (.send p seq dest tag (boolByte receipt) payload) s =
        .next (carrySend p dest tag (boolByte receipt) payload u) := exec_instr_carriedOut h
    have hfull : dests.any u.queueFull = true ↔ full := by
      simp only [List.any_eq_true, State.queueFull_iff]
      rfl
    have hcapped : u.capReached p = true ↔ capped := by
      rw [State.capReached_iff]
      rfl
    simp only [refused, hexec, carrySend, htarget, boolArg_boolByte, hdest, hfull, hcapped]
    refine ⟨fun hnone => ?_, fun hne hf => ?_, fun hne hf hc => ?_, fun hne hf hc hpool => ?_⟩
    · rw [if_pos hnone, h.refuse]
    · rw [if_neg hne, if_pos hf, h.refuse]
    · rw [if_neg hne, if_neg hf, if_pos hc, h.refuse]
    · have hnone : u.freeCell = none := State.freeCell_eq_none hpool
      rw [if_neg hne, if_neg hf, if_neg hc, hnone, h.refuse]

/-! ### Notices -/



/-- The flags item: the lost flag in bit 7 and at most 15 records left (R135). -/
theorem noticeFlags_eq (lost : Bool) {n : Nat} (h : n ≤ 15) : noticeFlags lost n = 128 * boolByte lost + natByte n := by
  have hall : ∀ b : Bool, ∀ k : Fin 16, noticeFlags b k.val = 128 * boolByte b + natByte k.val := by decide
  exact hall lost ⟨n, by omega⟩

/-- Settles O25: the branches of a post, and the condition of the ATTN line. -/
theorem postsAndTheAttentionLine : Obligations.PostsAndTheAttentionLine := by
  refine ⟨fun s source x rest h => ?_, fun s p => ⟨fun hcleared => ?_, fun hnot => ?_⟩⟩
  · intro u dropping q
    have hexec : exec (.noticePost source) s = .next (u.takePost x) := by
      change execNoticePost source s = _
      cases source <;> simp only at h <;> simp only [execNoticePost, h] <;> rfl
    have hrestart : u.restart = s.restart := by cases source <;> rfl
    have hsession : u.session x.port = s.session x.port := by cases source <;> rfl
    have hqueue : u.noticeQueue x.port = q := by cases source <;> rfl
    have hcleared : u.noticesCleared = true ↔ dropping := by rw [State.noticesCleared_iff, hrestart]
    simp only [hexec, State.takePost, hcleared, hsession, hqueue]
    refine ⟨fun hdrop => ?_, fun hd ho hlen => ?_, fun hd ho hlen => ?_⟩
    · obtain hd | hclosed := hdrop
      · rw [if_pos hd]
      · rw [if_neg hclosed, ite_self]
    · rw [if_neg hd, if_pos ho, NoticeQueue.takePost, if_pos (by exact hlen)]
    · rw [if_neg hd, if_pos ho, NoticeQueue.takePost, if_neg (by exact not_lt.mpr hlen)]
  · simp [State.attn, (State.noticesCleared_iff s).mpr hcleared]
  · have hclear : s.noticesCleared = false := by
      rw [← Bool.not_eq_true, State.noticesCleared_iff]
      rintro ⟨r, hr, htaken⟩
      simp [hnot r hr] at htaken
    simp [State.attn, hclear, attnCondition, or_assoc]

/-- Settles O26: the head record's bytes kind by kind, behind the flags item. -/
theorem takeNoticeReturnsTheHead : Obligations.TakeNoticeReturnsTheHead := by
  intro s p seq h hlen u lost
  have hexec : exec (.takeNotice p seq) s = .next (carryTakeNotice p u) := exec_instr_carriedOut h
  have hflags (n : Nat) (hn : n ≤ 15) : noticeFlags (s.noticeQueue p).lost n = lost + natByte n := noticeFlags_eq _ hn
  rw [hexec]
  refine ⟨fun hnone => ?_, fun n rest hq => ?_⟩
  · simp only [carryTakeNotice, u, State.noticeQueue_carrying, hnone, hflags 0 (by omega)]
    exact congrArg _ ((h.respond (by rfl) _ _).trans (by simp [natByte]))
  · have hrest : rest.length ≤ 15 := Nat.le_of_succ_le_succ (by simpa [hq] using hlen)
    refine ⟨n.bytes, by cases n <;> rfl, ?_, ?_⟩
    · simp only [carryTakeNotice, u, State.noticeQueue_carrying, hq, hflags _ hrest]
      exact congrArg _ (h.respond (by rfl) _ _)
    · refine ⟨?_, ?_, ?_, ?_, ?_, ?_, ?_⟩ <;> intros <;> subst n <;> rfl

end Sys2Proof.Machine
end

section
/-! Sessions and their teardown (R86 to R100, R105). -/

namespace Sys2Proof.Machine

/-! ### Posts to the peers -/

section
variable {s : State}

/-- The session block posts to the ports of the list that are present, in order (R88, R99). -/
theorem State.tellPeers_sessionPosts (n : Notice) (k : Option Port) (qs : List Port) :
    (s.tellPeers n k qs).sessionPosts =
      s.sessionPosts ++ (qs.filter s.present).map fun q => { port := q, notice := n, cause := k } := by
  induction qs generalizing s with
  | nil => simp [State.tellPeers]
  | cons q qs ih =>
    rw [State.tellPeers, ih]
    have hpresent (v : Bool) : (if v = true then s.postFromSessions q n k else s).present = s.present := by
      cases v <;> rfl
    rw [hpresent]
    cases hq : s.present q <;> simp [hq]

theorem mem_otherPorts {p q : Port} : q ∈ otherPorts p ↔ q ≠ p := by
  simp [otherPorts, allPorts]

theorem State.present_iff {q : Port} : s.present q = true ↔ (s.session q).state = .opened := by simp [State.present]

/-- In a list of distinct entries the filter for one entry finds it once or not at all. -/
theorem filter_eq_of_nodup {α : Type} [DecidableEq α] {xs : List α} (h : xs.Nodup) (x : α) :
    xs.filter (fun y => decide (y = x)) = if x ∈ xs then [x] else [] := by
  induction xs with
  | nil => simp
  | cons y ys ih =>
    obtain ⟨hy, hys⟩ := List.nodup_cons.mp h
    by_cases hyx : y = x
    · subst hyx
      simp [ih hys, hy]
    · simp [ih hys, hyx, Ne.symm hyx]

/-- Each other port with an OPEN session gets the notice once (R88, R99). -/
theorem State.tellPeers_filter (n : Notice) (k : Option Port) (p q : Port) :
    (s.tellPeers n k (otherPorts p)).sessionPosts.filter (fun o => decide (o.port = q)) =
      s.sessionPosts.filter (fun o => decide (o.port = q)) ++
        if q ≠ p ∧ (s.session q).state = .opened then [{ port := q, notice := n, cause := k }] else [] := by
  have hnodup : ((otherPorts p).filter s.present).Nodup := ((List.nodup_finRange 4).filter _).filter _
  rw [State.tellPeers_sessionPosts, List.filter_append, List.filter_map]
  congr 1
  have hcomp : ((fun o : Post => decide (o.port = q)) ∘ fun r => ({ port := r, notice := n, cause := k } : Post)) =
      fun r => decide (r = q) := rfl
  rw [hcomp, filter_eq_of_nodup hnodup]
  simp only [List.mem_filter, mem_otherPorts, State.present_iff]
  split <;> rfl

theorem State.engine_tellPeers (n : Notice) (k : Option Port) (qs : List Port) (q : Port) :
    (s.tellPeers n k qs).engine q = s.engine q := by
  rw [State.tellPeers_frame]; rfl

theorem State.session_tellPeers (n : Notice) (k : Option Port) (qs : List Port) (q : Port) :
    (s.tellPeers n k qs).session q = s.session q := by
  rw [State.tellPeers_frame]; rfl

end

/-! ### OPEN -/

/-- OPEN with arguments in range (R86, R87). -/
theorem carryOpen_eq {s : State} {p : Port} {lease : Word16} {prio : Prio} {threshold : Byte} {enable : Bool}
    (h1 : 100 ≤ lease.toNat) (h2 : lease.toNat ≤ 60000) (h3 : threshold.toNat ≤ 32) :
    carryOpen p lease (argByte prio) threshold (boolByte enable) s =
      if (s.session p).state ≠ .closed then s.refuse p .state
      else
        ((s.setSession p ((s.session p).opening lease prio threshold enable)).tellPeers
          (.peerOpened p (nextEpoch (s.session p).epoch)) none (otherPorts p)).respond p .ok
          [nextEpoch (s.session p).epoch, natByte (min prio (s.session p).cap).val, (s.session p).endReason.code] := by
  have hrange : ¬(within 100 60000 lease.toNat = false ∨ within 0 32 threshold.toNat = false) := by
    simp only [within_eq_false]
    omega
  simp only [carryOpen, prioArg_argByte, boolArg_boolByte, if_neg hrange]
  rfl

/-- A session that is not OPEN has no lease to renew (R90). -/
theorem Session.renewed_of_ne {x : Session} (h : x.state ≠ .opened) : x.renewed = x := if_neg h

/-- Settles O27: OPEN makes the session record, tells the peers and answers. -/
theorem openMakesASession : Obligations.OpenMakesASession := by
  intro s p seq lease prio threshold enable cmd h h1 h2 h3
  have hexec : exec (cmd.instr p seq) s =
      .next (carryOpen p lease (argByte prio) threshold (boolByte enable) (s.carrying p seq cmd)) := exec_instr_carriedOut h
  have hstate : ((s.carrying p seq cmd).session p).state = (s.session p).state := State.session_state_carrying p
  rw [hexec, carryOpen_eq h1 h2 h3, hstate]
  refine ⟨fun hs => ?_, fun hs => ?_⟩
  · rw [if_pos hs, h.refuse]
  · intro x y
    rw [if_neg (by simpa using hs)]
    have hsession : (s.carrying p seq cmd).session p = x := by
      simp [x, Session.renewed_of_ne (x := s.session p) (by simp [hs])]
    have hy : x.opening lease prio threshold enable = y := by
      simp only [Session.opening, min_def]
      rfl
    have hprio : min prio x.cap = y.prio := min_def prio x.cap
    rw [hsession, hy, hprio]
    set n : Notice := .peerOpened p (nextEpoch x.epoch) with hn
    set u := (s.carrying p seq cmd).setSession p y with hu
    set v := u.tellPeers n none (otherPorts p) with hv
    have hanswer (data : List Byte) : v.respond p .ok data = v.answer p .ok data :=
      h.respond (congrArg Engine.stageDeferred ((State.engine_tellPeers _ _ _ p).trans (State.engine_setSession _ p y p))) _ _
    have hframe : v = { u with sessionPosts := v.sessionPosts } := State.tellPeers_frame u _ _ _
    refine ⟨_, congrArg _ (hanswer _), ?_, ?_, fun q => ?_, ?_⟩
    · simp [State.answer, hv, State.session_tellPeers, hu]
    · simp only [State.answer, State.engine_setEngine, if_true, hv, State.engine_tellPeers]
      rfl
    · refine (State.tellPeers_filter n none p q).trans ?_
      have hq (hqp : q ≠ p) : (u.session q).state = (s.session q).state := by
        rw [hu, State.session_setSession, if_neg hqp.symm, State.session_state_carrying]
      congr 1
      exact if_congr (and_congr_right fun hqp => by rw [hq hqp]) rfl rfl
    · constructor
      case engines =>
        intro q hq
        have hne : p ≠ q := by rintro rfl; simp at hq
        simp [State.answer, hne, hv, State.engine_tellPeers, hu]
      case sessions =>
        intro q hq
        have hne : p ≠ q := by rintro rfl; simp at hq
        simp [State.answer, hne, hv, State.session_tellPeers, hu]
      case sessionPosts => simp
      all_goals (rw [hframe]; intros; rfl)

/-! ### The start of a teardown -/

/-- The start of a teardown forgets the renewal of the lease (R96). -/
theorem Session.beginTeardown_renewed (x : Session) (reason : EndReason) (a : Option Port) :
    x.renewed.beginTeardown reason a = x.beginTeardown reason a := by
  unfold Session.renewed
  split <;> rfl



/-- Settles O28: the branches of CLOSE, EXPEL and LEASE_EXPIRY. -/
theorem teardownBegins : Obligations.TeardownBegins := by
  refine ⟨fun s p seq h => ⟨fun hs => ?_, fun hs => ?_⟩, fun s p q seq h => ⟨fun hs => ?_, fun hqp hs => ?_⟩,
    fun s p => ⟨fun hs hl => ?_, fun hs => ?_⟩⟩
  · have hstate : ((s.carrying p seq .close).session p).state ≠ .opened := by simp [hs]
    refine (exec_instr_carriedOut h).trans (congrArg _ ?_)
    rw [carryOut, carryClose, if_neg hstate]
    exact h.respond (by rfl) _ _
  · have hstate : ((s.carrying p seq .close).session p).state = .opened := by simp [hs]
    refine (exec_instr_carriedOut h).trans (congrArg _ ?_)
    rw [carryOut, carryClose, if_pos hstate, State.beginTeardown, State.session_carrying, if_pos rfl,
      Session.beginTeardown_renewed]
    rfl
  · have hstate : q = p ∨ (s.carrying p seq (.expel (argByte q))).present q = false := by
      simpa only [State.present, State.session_state_carrying, decide_eq_false_iff_not] using hs
    refine (exec_instr_carriedOut h).trans (congrArg _ ?_)
    simp only [carryOut, carryExpel, portArg_argByte, if_pos hstate]
    exact h.refuse .state
  · have hstate : ¬(q = p ∨ (s.carrying p seq (.expel (argByte q))).present q = false) := by
      simp only [State.present, State.session_state_carrying, hs, hqp]
      simp
    refine (exec_instr_carriedOut h).trans (congrArg _ ?_)
    simp only [carryOut, carryExpel, portArg_argByte, if_neg hstate, State.beginTeardown, State.session_carrying,
      if_neg hqp.symm]
    rfl
  · change execLeaseExpiry p s = _
    rw [execLeaseExpiry, if_pos ⟨hs, hl⟩]
    rfl
  · change execLeaseExpiry p s = _
    rw [execLeaseExpiry, if_neg]
    rintro ⟨h1, h2⟩
    exact hs.elim (· h1) (· h2)

/-! ### The order of the teardown steps -/

section
variable {s : State} {p : Port} {t : Teardown}

theorem State.postsTaken_iff :
    s.postsTaken p = true ↔ ∀ x ∈ s.lockPosts ++ s.sessionPosts ++ s.messagePosts, x.cause ≠ some p := by
  simp [State.postsTaken, or_imp, forall_and]

/-- While the present step, or one of its posts, has not been taken, no further step is handed on (R97, R133). -/
theorem State.handedOn_of_not_taken (ht : (s.session p).teardown = some t)
    (h : t.stepTaken = false ∨ ∃ x ∈ s.lockPosts ++ s.sessionPosts ++ s.messagePosts, x.cause = some p) :
    s.handedOn p = some t := by
  have hnot : ¬(t.stepTaken = true ∧ s.postsTaken p = true ∧ (s.session p).state = .ending) := by
    rintro ⟨hstep, hposts, -⟩
    obtain hf | ⟨x, hx, hc⟩ := h
    · simp [hf] at hstep
    · exact State.postsTaken_iff.mp hposts x hx hc
  simp [State.handedOn, ht, hnot]

/-- A step that is not the one handed on is not due. -/
theorem State.step_of_handedOn (h : s.handedOn p = some t) {t' : Teardown} (ht' : s.teardownStep p = some t') : t' = t := by
  obtain ⟨h', -⟩ := (State.teardownStep_eq_some s p t').mp ht'
  exact Option.some.inj (h'.symm.trans h)

theorem State.lockStepDue_eq_false {step : TeardownStep} (h : ∀ t, s.teardownStep p = some t → t.step ≠ step) (l : LockId) :
    s.lockStepDue p step l = false := by
  unfold State.lockStepDue
  cases ht : s.teardownStep p with
  | none => rfl
  | some t => simp [h t ht]

theorem State.blockStepDue_eq_false {step : TeardownStep} (h : ∀ t, s.teardownStep p = some t → t.step ≠ step) :
    s.blockStepDue p step = false := by
  unfold State.blockStepDue
  cases ht : s.teardownStep p with
  | none => rfl
  | some t => simp [h t ht]

/-- A step that is not the one in flight takes no effect (log 3). -/
theorem exec_teardownHoldings_of_other (h : ∀ t, s.teardownStep p = some t → t.step ≠ .holdings) (l : LockId) :
    exec (.teardownHoldings p l) s = .next s := by
  change execTeardownHoldings p l s = _
  simp [execTeardownHoldings, State.lockStepDue_eq_false h]

theorem exec_teardownWaits_of_other (h : ∀ t, s.teardownStep p = some t → t.step ≠ .waits) (l : LockId) :
    exec (.teardownWaits p l) s = .next s := by
  change execTeardownWaits p l s = _
  simp [execTeardownWaits, State.lockStepDue_eq_false h]

theorem exec_teardownFlush_of_other (h : ∀ t, s.teardownStep p = some t → t.step ≠ .flush) :
    exec (.teardownFlush p) s = .next s := by
  change execTeardownFlush p s = _
  simp [execTeardownFlush, State.blockStepDue_eq_false h]

theorem exec_teardownPeerEnded_of_other (h : ∀ t, s.teardownStep p = some t → t.step ≠ .peerEnded) :
    exec (.teardownPeerEnded p) s = .next s := by
  change execTeardownPeerEnded p s = _
  simp [execTeardownPeerEnded, State.blockStepDue_eq_false h]

theorem exec_teardownEnd_of_other (h : ∀ t, s.teardownStep p = some t → t.step ≠ .finish) :
    exec (.teardownEnd p) s = .next s := by
  change execTeardownEnd p s = _
  simp [execTeardownEnd, State.blockStepDue_eq_false h]

/-- While a step stands, every other one takes no effect. -/
theorem State.other_of_handedOn (h : s.handedOn p = some t) {step : TeardownStep} (hstep : t.step ≠ step) :
    ∀ t', s.teardownStep p = some t' → t'.step ≠ step := fun _ ht' => State.step_of_handedOn h ht' ▸ hstep

end

/-- Settles O29: while the step in flight has not been taken it stays the one handed on; then the next one follows. -/
theorem teardownStepsFollowOneAnother : Obligations.TeardownStepsFollowOneAnother := by
  intro s p t ht
  refine ⟨fun hstep h => ?_, fun hstep h => ?_, fun hstep h => ?_, fun hstep h => ?_, fun hstate hstep htaken hposts => ?_⟩
  case refine_5 =>
    have hnext : s.handedOn p = some { step := t.step.next, locks := 0, taken := false } := by
      simp only [State.handedOn, ht]
      exact if_pos ⟨htaken, State.postsTaken_iff.mpr hposts, hstate⟩
    rw [State.teardownStep, hnext, Option.filter_some]
    by_cases hr : ∃ r ∈ s.restart, r.takenBy t.step.next.block = true
    · have htakenBy := (State.restartTakenBy_iff s _).mpr hr
      simp only [htakenBy, if_pos hr]
      rfl
    · have htakenBy := Bool.eq_false_iff.mpr (mt (State.restartTakenBy_iff s _).mp hr)
      simp only [htakenBy, if_neg hr]
      rfl
  all_goals
    have hnow : s.handedOn p = some t := State.handedOn_of_not_taken ht (h.imp_left fun hl => by
      simpa [Teardown.stepTaken, hstep] using hl)
  · exact ⟨exec_teardownWaits_of_other (State.other_of_handedOn hnow (by simp [hstep])),
      exec_teardownFlush_of_other (State.other_of_handedOn hnow (by simp [hstep])),
      exec_teardownPeerEnded_of_other (State.other_of_handedOn hnow (by simp [hstep])),
      exec_teardownEnd_of_other (State.other_of_handedOn hnow (by simp [hstep]))⟩
  · exact ⟨exec_teardownFlush_of_other (State.other_of_handedOn hnow (by simp [hstep])),
      exec_teardownPeerEnded_of_other (State.other_of_handedOn hnow (by simp [hstep])),
      exec_teardownEnd_of_other (State.other_of_handedOn hnow (by simp [hstep]))⟩
  · exact ⟨exec_teardownPeerEnded_of_other (State.other_of_handedOn hnow (by simp [hstep])),
      exec_teardownEnd_of_other (State.other_of_handedOn hnow (by simp [hstep]))⟩
  · exact exec_teardownEnd_of_other (State.other_of_handedOn hnow (by simp [hstep]))

/-! ### The two lock steps -/

section
variable {lk : LockRec} {w : Waiter}

/-- What the pass can choose, with what it has found (R34, table). -/
theorem LockRec.pass_cases (lk : LockRec) :
    lk.pass = .nothing ∨
      (∃ w rest, lk.queue = w :: rest ∧ lk.state = .free ∧ lk.group = none ∧ w.req = .exclusive ∧ lk.pass = .grantHead w) ∨
      (∃ w rest, lk.queue = w :: rest ∧ w.req = .shared ∧ (lk.state = .free ∧ lk.group = none ∨ lk.state = .shared) ∧
        lk.pass = .batch (sharedBatch lk.queue)) ∨
      (∃ w rest h, lk.queue = w :: rest ∧ lk.state = .shared ∧ w.req = .upgrade ∧ lk.holders = [h] ∧ h.port = w.port ∧
        lk.pass = .convert w) ∨
      (∃ w rest g, lk.queue = w :: rest ∧ lk.state = .free ∧ lk.group = some g ∧ w.req = .exclusive ∧
        lk.pass = .startHandover w) := by
  cases hq : lk.queue with
  | nil => exact .inl (LockRec.pass_of_no_waiter hq)
  | cons w rest =>
    by_cases hfree : lk.state = .free
    · cases hw : w.req with
      | exclusive =>
        cases hg : lk.group with
        | none => exact .inr (.inl ⟨w, rest, rfl, hfree, rfl, hw, LockRec.pass_of_free_unbound_exclusive hq hfree hg hw⟩)
        | some g =>
          exact .inr (.inr (.inr (.inr ⟨w, rest, g, rfl, hfree, rfl, hw, LockRec.pass_of_free_bound_exclusive hq hfree hg hw⟩)))
      | shared =>
        by_cases hg : lk.group = none
        · rw [← hq]
          exact .inr (.inr (.inl ⟨w, rest, hq, hw, .inl ⟨hfree, hg⟩, LockRec.pass_of_shared_head hq (.inl ⟨hfree, hg⟩) hw⟩))
        · exact .inl (LockRec.pass_of_free_not_grantable hq hfree (.inr ⟨hw, hg⟩))
      | upgrade => exact .inl (LockRec.pass_of_free_not_grantable hq hfree (.inl hw))
    by_cases hshared : lk.state = .shared
    · cases hw : w.req with
      | exclusive => exact .inl (LockRec.pass_of_shared_exclusive hq hshared hw)
      | shared =>
        rw [← hq]
        exact .inr (.inr (.inl ⟨w, rest, hq, hw, .inr hshared, LockRec.pass_of_shared_head hq (.inr hshared) hw⟩))
      | upgrade =>
        by_cases hsole : ∃ h, lk.holders = [h] ∧ h.port = w.port
        · obtain ⟨h, hh, hp⟩ := hsole
          exact .inr (.inr (.inr (.inl
            ⟨w, rest, h, rfl, hshared, hw, hh, hp, LockRec.pass_of_sole_holder_upgrade hq hshared hw hh hp⟩)))
        · exact .inl (LockRec.pass_of_upgrade_not_sole hq hshared hw fun h hh hp => hsole ⟨h, hh, hp⟩)
    · exact .inl (LockRec.pass_of_neither_free_nor_shared hfree hshared)

/-- The record after the pass of the lock (R33). -/
def LockRec.passed (lk : LockRec) : LockRec := lk.afterPass lk.pass

theorem State.lock_grantPass_self (s : State) (l : LockId) (k : Option Port) :
    (s.grantPass l k).lock l = (s.lock l).passed := by simp [LockRec.passed]

/-- The ports of a batch are ports of the queue. -/
theorem sharedBatch_sublist (queue : List Waiter) : (sharedBatch queue).Sublist queue := List.takeWhile_sublist _

/-- A port that neither holds the lock nor waits for it holds nothing after the pass. -/
theorem LockRec.not_mem_passed_holders {p : Port} (hh : p ∉ lk.holders.map Holder.port) (hq : p ∉ lk.queue.map Waiter.port) :
    p ∉ lk.passed.holders.map Holder.port := by
  have hgrant (m : Mode) (ports : List Port) (hports : p ∉ ports) : p ∉ (lk.grant m ports).holders.map Holder.port := by
    simp only [LockRec.grant, List.map_append, List.mem_append, not_or]
    refine ⟨fun hp => ?_, by simpa [Function.comp_def, LockRec.newHolder] using hports⟩
    obtain ⟨x, hx, rfl⟩ := List.mem_map.mp hp
    exact hh (List.mem_map_of_mem (List.mem_of_mem_filter hx))
  obtain hp | ⟨w, rest, hw, -, -, -, hp⟩ | ⟨w, rest, -, -, -, hp⟩ | ⟨w, rest, h, hw, -, -, -, -, hp⟩ |
    ⟨w, rest, g, hw, -, -, -, hp⟩ := lk.pass_cases <;> rw [LockRec.passed, hp]
  · exact hh
  · exact hgrant _ _ (by simp_all)
  · exact hgrant _ _ fun hm => hq (((sharedBatch_sublist _).map _).mem hm)
  · exact hgrant _ _ (by simp_all)
  · exact hh

/-- A lock that is not FREE keeps its handover target through the pass (R36). -/
theorem LockRec.passed_target (h : lk.state ≠ .free) : lk.passed.target = lk.target := by
  obtain hp | ⟨w, rest, -, hs, -⟩ | ⟨w, rest, -, -, -, hp⟩ | ⟨w, rest, h, -, -, -, -, -, hp⟩ | ⟨w, rest, g, -, hs, -⟩ :=
    lk.pass_cases
  · rw [LockRec.passed, hp]; rfl
  · exact absurd hs h
  · rw [LockRec.passed, hp]; rfl
  · rw [LockRec.passed, hp]; rfl
  · exact absurd hs h

end

section
variable {s : State} {p : Port} {l : LockId}

theorem State.withdrawHolding_of_not_holder (h : p ∉ (s.lock l).holders.map Holder.port) : s.withdrawHolding p l = s := by
  have hnone : ((s.lock l).holderOf p).isSome = false := by rw [LockRec.holderOf_eq_none.mpr h]; rfl
  simp [State.withdrawHolding, hnone]

theorem State.withdrawHolding_of_holder (h : p ∈ (s.lock l).holders.map Holder.port) :
    s.withdrawHolding p l = s.releasePath l [p] (some p) := by
  have hsome : ((s.lock l).holderOf p).isSome = true :=
    Option.isSome_iff_ne_none.mpr (mt LockRec.holderOf_eq_none.mp (by simpa using h))
  simp [State.withdrawHolding, hsome]

theorem State.withdrawWaiter_of_not_waiter (h : p ∉ (s.lock l).queue.map Waiter.port) : s.withdrawWaiter p l = s := by
  simp [State.withdrawWaiter, LockRec.waiterOf_eq_none.mpr h]

theorem State.withdrawTarget_of_not_target (h : p ∉ ((s.lock l).target.map Waiter.port).toList) :
    s.withdrawTarget p l = s := by
  unfold State.withdrawTarget
  cases ht : (s.lock l).target with
  | none => rfl
  | some w =>
    have hne : w.port ≠ p := by simpa [ht, eq_comm] using h
    simp [hne]

/-- A lock step that is due is carried out and marked. -/
theorem State.lockStepDue_eq_true {step : TeardownStep} {t : Teardown} (ht : s.teardownStep p = some t)
    (hstep : t.step = step) (hl : t.locks.getLsbD l.val = false) : s.lockStepDue p step l = true := by
  simp only [State.lockStepDue, ht, hstep, hl]
  rfl

theorem exec_teardownHoldings_of_due {t : Teardown} (ht : s.teardownStep p = some t) (hstep : t.step = .holdings)
    (hl : t.locks.getLsbD l.val = false) :
    exec (.teardownHoldings p l) s = .next ((s.withdrawHolding p l).markLock p t l) := by
  change execTeardownHoldings p l s = _
  simp only [execTeardownHoldings, State.lockStepDue_eq_true ht hstep hl, ht]

theorem exec_teardownWaits_of_due {t : Teardown} (ht : s.teardownStep p = some t) (hstep : t.step = .waits)
    (hl : t.locks.getLsbD l.val = false) :
    exec (.teardownWaits p l) s =
      .next ((((s.withdrawWaiter p l).withdrawTarget p l).withdrawHolding p l).markLock p t l) := by
  change execTeardownWaits p l s = _
  simp only [execTeardownWaits, State.lockStepDue_eq_true ht hstep hl, ht]

@[simp] theorem State.lock_handEnding (e : Ending) (q : Port) (k : LockId) : (s.handEnding q e).lock k = s.lock k := rfl

/-- An ending is kept where none has been handed before (R42). -/
theorem State.handEnding_eq (e : Ending) (q : Port) :
    s.handEnding q e = s.setEngine q
      { s.engine q with handed := if (s.engine q).handed = none then some e else (s.engine q).handed } := by
  cases h : (s.engine q).handed <;> simp [State.handEnding, h]

end

/-- Settles O30: at a sound lock a port is a holder, a waiter, the target or none of them, and each part of the step acts on its
own kind of entry. -/
theorem teardownLockSteps : Obligations.TeardownLockSteps := by
  intro s p l t ht hl sound marked aborted holds
  have hmark (u : State) (hu : u.session p = s.session p) : u.markLock p t l = marked u := by
    simp only [State.markLock, hu, marked]
  have haborted (u : State) : u.handEnding p .aborted = aborted u := State.handEnding_eq .aborted p
  obtain ⟨-, htarget, hout⟩ := sound.places
  have hnoTarget (h : holds) : p ∉ ((s.lock l).target.map Waiter.port).toList := by
    obtain ⟨x, hx, -⟩ := List.mem_map.mp h
    have hs : (s.lock l).state ≠ .handover := fun hs => by
      rw [sound.holders_eq_nil (by simp [hs]) (by simp [hs])] at hx
      simp at hx
    simp [sound.target_eq_none hs]
  refine ⟨fun hstep hh => ?_, fun hstep hh => ?_, fun hstep hh hq htg => ?_, fun hstep hh hq => ?_,
    fun w hw hstep hh hwp => ?_, fun w hw g hg hstep hwp => ?_⟩
  · rw [exec_teardownHoldings_of_due ht hstep hl, State.withdrawHolding_of_not_holder hh, hmark s rfl]
  · rw [exec_teardownHoldings_of_due ht hstep hl, State.withdrawHolding_of_holder hh, hmark _ (by simp)]
  · rw [exec_teardownWaits_of_due ht hstep hl, State.withdrawWaiter_of_not_waiter hq, State.withdrawTarget_of_not_target htg,
      State.withdrawHolding_of_not_holder hh, hmark s rfl]
  · rw [exec_teardownWaits_of_due ht hstep hl, State.withdrawWaiter_of_not_waiter hq,
      State.withdrawTarget_of_not_target (hnoTarget hh), State.withdrawHolding_of_holder hh, hmark _ (by simp)]
  · subst hwp
    intro u
    have hqueue : w.port ∈ (s.lock l).queue.map Waiter.port := List.mem_map_of_mem hw
    have hfree : (s.lock l).state ≠ .free := fun hs => by simp [sound.queue_of_free hs] at hw
    have hwithdraw : s.withdrawWaiter w.port l = if w.blocking = true then aborted u else u := by
      simp only [State.withdrawWaiter, LockRec.waiterOf_mem sound.ports_nodup hw, haborted]
      rfl
    have hlock : (s.withdrawWaiter w.port l).lock l = ((s.lock l).withoutWaiter w.port).passed := by
      rw [hwithdraw]
      have hu : u.lock l = ((s.lock l).withoutWaiter w.port).passed := by
        simp [u, LockRec.withoutWaiter, LockRec.passed]
      split
      · exact hu
      · exact hu
    have htg : w.port ∉ (((s.withdrawWaiter w.port l).lock l).target.map Waiter.port).toList := by
      rw [hlock, LockRec.passed_target (by exact hfree)]
      change w.port ∉ ((s.lock l).target.map Waiter.port).toList
      cases htgt : (s.lock l).target with
      | none => simp
      | some o =>
        obtain ⟨-, -, ho⟩ := hout o htgt
        have hne : w.port ≠ o.port := fun e => ho (e ▸ hqueue)
        simpa [eq_comm] using hne
    have hhold : w.port ∉ ((s.withdrawWaiter w.port l).lock l).holders.map Holder.port := by
      rw [hlock]
      exact LockRec.not_mem_passed_holders hh (by simp [LockRec.withoutWaiter])
    rw [exec_teardownWaits_of_due ht hstep hl, State.withdrawTarget_of_not_target htg,
      State.withdrawHolding_of_not_holder hhold, hwithdraw, hmark]
    split
    · simp [aborted, u]
    · simp [u]
  · subst hwp
    intro u
    have hw : (s.lock l).target = some w := hw
    have hg : (s.lock l).group = some g := hg
    obtain ⟨-, -, hq⟩ := hout w hw
    have hs := sound.state_of_target hw
    have hholders := sound.holders_eq_nil (by simp [hs]) (by simp [hs])
    have hwithdraw : s.withdrawTarget w.port l = if w.blocking = true then aborted u else u := by
      simp only [State.withdrawTarget, hw, if_true, State.abortHandover, State.vacate_of_bound (g := g) hg, haborted]
      rfl
    have hhold : w.port ∉ ((s.withdrawTarget w.port l).lock l).holders.map Holder.port := by
      rw [hwithdraw]
      split <;> simp [aborted, u, hholders]
    rw [exec_teardownWaits_of_due ht hstep hl, State.withdrawWaiter_of_not_waiter hq,
      State.withdrawHolding_of_not_holder hhold, hwithdraw, hmark]
    split <;> simp [aborted, u]

/-! ### The last two steps -/

/-- Settles O31: the posts of the fourth step, and the record that the fifth leaves. -/
theorem teardownPeerStepAndEnd : Obligations.TeardownPeerStepAndEnd := by
  intro s p td ht htaken
  refine ⟨fun hstep => ?_, fun hstep hstate => ?_⟩
  · have hexec : exec (.teardownPeerEnded p) s = .next ((s.tellPeers
        (.peerEnded p (s.session p).epoch (s.session p).endReason) (some p) (otherPorts p)).markBlock p td) := by
      change execTeardownPeerEnded p s = _
      simp only [execTeardownPeerEnded, State.blockStepDue_eq_true ht hstep htaken, ht]
    refine ⟨_, hexec, fun q => State.tellPeers_filter _ _ p q, ?_, ?_⟩
    · simp [State.markBlock, State.session_tellPeers]
    · rw [State.markBlock]
      constructor
      case sessions =>
        intro q hq
        have hne : p ≠ q := by rintro rfl; simp at hq
        simp [hne, State.session_tellPeers]
      case sessionPosts => simp
      all_goals (rw [State.tellPeers_frame]; intros; rfl)
  · intro others v u
    have hposts (posts : List Post) : withoutEnded (fun q => decide (q = p)) posts = others posts :=
      List.filter_congr fun x _ => by
        cases x.notice.guarded <;> simp
    have hexec : exec (.teardownEnd p) s = .next (u.handOk p (s.session p).awaiter) := by
      change execTeardownEnd p s = _
      simp only [execTeardownEnd, State.blockStepDue_eq_true ht hstep htaken, hstate, if_true, State.discardPosts,
        State.lockPosts_setNoticeQueue, State.messagePosts_setNoticeQueue, hposts]
      rfl
    rw [hexec]
    refine ⟨fun hnone => by rw [hnone]; rfl, fun a ha hexecuting hdeferred hwait => ?_⟩
    rw [ha]
    have hwaits : (u.engine a).state = .executing ∧
        (u.engine a).wait = (if a = p then ExecWait.ownTeardown else ExecWait.teardownOf p) := ⟨hexecuting, hwait⟩
    simp only [State.handOk, if_pos hwaits]
    exact congrArg _ (State.respond_eq_answer (by exact hdeferred) _ _)

end Sys2Proof.Machine
end

section
/-! Configuration: attributes, port limits and the binding of routes (R76 to R78, R151 to R157). -/

namespace Sys2Proof.Machine

theorem LockRec.inSharedUse_iff {lk : LockRec} :
    lk.inSharedUse = true ↔ lk.state = .shared ∨ ∃ w ∈ lk.queue, w.req = .shared := by
  simp [LockRec.inSharedUse]

/-- Settles O32: the branches of SET_LOCK_ATTR. -/
theorem setLockAttrWritesBothAttributes : Obligations.SetLockAttrWritesBothAttributes := by
  intro s p seq lock shared hold h u
  have hexec : exec (.setLockAttr p seq lock shared hold) s = .next (carrySetLockAttr p lock shared hold u) :=
    exec_instr_carriedOut h
  rw [hexec]
  refine ⟨fun hrange => ?_, fun l hlock hl => ?_⟩
  · rw [carrySetLockAttr_range (by omega), h.refuse]
  · intro busy
    have hbusy : (u.lock l).inSharedUse = true ↔ busy := LockRec.inSharedUse_iff
    have harg : lockArg lock = some l := lockArg_of_toNat hlock
    refine ⟨fun hs hb => ?_, ?_⟩
    · subst hs
      have hrefuse : carrySetLockAttr p lock 0 hold u = u.refuse p .busy := by
        rw [carrySetLockAttr, harg]
        simp only [show boolArg 0 = some false from rfl, if_neg hl, hbusy.mpr hb, and_self, if_true]
      rw [hrefuse, h.refuse]
    · rintro (rfl | ⟨rfl, hb⟩)
      · have hwrite : carrySetLockAttr p lock 1 hold u =
            (u.setLock l { s.lock l with sharedAllowed := true, holdLimit := hold }).respond p .ok [] := by
          rw [carrySetLockAttr, harg]
          simp only [show boolArg 1 = some true from rfl, if_neg hl, Bool.true_eq_false, false_and, if_false]
          rfl
        rw [hwrite]
        exact congrArg _ (h.respond (by rfl) _ _)
      · have hwrite : carrySetLockAttr p lock 0 hold u =
            (u.setLock l { s.lock l with sharedAllowed := false, holdLimit := hold }).respond p .ok [] := by
          rw [carrySetLockAttr, harg]
          simp only [show boolArg 0 = some false from rfl, if_neg hl, hbusy, hb, and_false, if_false]
          rfl
        rw [hwrite]
        exact congrArg _ (h.respond (by rfl) _ _)

/-! ### Port limits -/

/-- A response ends the wait of the frame (R186). -/
theorem State.waitFor_respond {u : State} {p : Port} (h : (u.engine p).stageDeferred = false) (w : ExecWait) (st : Status)
    (data : List Byte) : (u.waitFor p w).respond p st data = u.answer p st data := by
  simp [State.respond, Engine.respond, Engine.leaveExecuting, State.waitFor, State.answer, h, Config.busTimeout]

theorem LimitsHandover.complete_iff {h : LimitsHandover} :
    h.complete = true ↔ h.sessionTaken = true ∧ h.messageTaken = true ∧ h.engineTaken = true := by
  simp [LimitsHandover.complete, and_assoc]

/-- A block that has not taken the limits takes them, and the last one lets the requester answer (R154). -/
theorem exec_newPortLimitsTaken {s : State} {p : Port} {h : LimitsHandover} {block : LimitBlock}
    (hstate : (s.engine p).state = .executing) (hwait : (s.engine p).wait = .portLimits h) (hnew : h.takenBy block = false)
    (hdeferred : ((s.takeLimits h block).engine p).stageDeferred = false) :
    exec (.newPortLimitsTaken p block) s = .next
      (if (h.mark block).sessionTaken = true ∧ (h.mark block).messageTaken = true ∧ (h.mark block).engineTaken = true then
        (s.takeLimits h block).answer p .ok []
      else (s.takeLimits h block).holdOn p (.portLimits (h.mark block))) := by
  change execNewPortLimitsTaken p block s = _
  simp only [execNewPortLimitsTaken, hstate, hwait, hnew, Bool.false_eq_true, if_false, LimitsHandover.complete_iff,
    State.waitFor_respond hdeferred]
  split <;> rfl

/-- A new cap lowers the priority of a session that is not CLOSED and above it (R155). -/
theorem Session.takeCap_eq (x : Session) (cap : Prio) :
    x.takeCap cap = { x with cap := cap, prio := if x.state ≠ .closed ∧ cap < x.prio then cap else x.prio } := by
  have hprio : (if x.state = .closed then x.prio else min x.prio cap) =
      if x.state ≠ .closed ∧ cap < x.prio then cap else x.prio := by
    by_cases hs : x.state = .closed
    · simp [hs]
    · simp only [hs, ne_eq, not_false_eq_true, true_and, if_false, min_def]
      by_cases hc : cap < x.prio
      · rw [if_neg (not_le.mpr hc), if_pos hc]
      · rw [if_pos (not_lt.mp hc), if_neg hc]
  rw [Session.takeCap, hprio]

/-- Settles O33: the wait begins, and each block takes its values. -/
theorem setPortLimitsReachesThreeBlocks : Obligations.SetPortLimitsReachesThreeBlocks := by
  refine ⟨fun s p q seq quota sendCap stretch cap h hrange => ?_, fun s p h hstate hwait hdeferred => ?_⟩
  · have hin : ¬(within 1 32 quota.toNat = false ∨ within 1 64 sendCap.toNat = false ∨ within 1 50 stretch.toNat = false) := by
      simp only [within_eq_false]
      omega
    refine (exec_instr_carriedOut h).trans (congrArg _ ?_)
    simp only [carryOut, carrySetPortLimits, portArg_argByte, prioArg_argByte, if_neg hin]
    rfl
  · intro finish
    refine ⟨fun hnew => ?_, fun hnew => ?_, fun hnew => ?_⟩
    · rw [exec_newPortLimitsTaken (block := .session) hstate hwait hnew hdeferred, State.takeLimits, Session.takeCap_eq]
      rfl
    · exact exec_newPortLimitsTaken (block := .message) hstate hwait hnew hdeferred
    · refine exec_newPortLimitsTaken (block := .engine) hstate hwait hnew ?_
      rw [State.takeLimits, State.engine_setEngine]
      split
      · next he => subst he; exact hdeferred
      · exact hdeferred

/-! ### BIND_ROUTE, UNBIND_ROUTE and CLEAR_ROUTE_FAULT -/

theorem bindable_iff {g : Group} {lk : LockRec} :
    bindable g lk = true ↔ g.state = .unbound ∧ lk.group = none ∧ lk.state = .free ∧ lk.queue = [] := by
  simp [bindable, and_assoc]

theorem unbindable_iff {g : Group} {lk : LockRec} :
    unbindable g lk = true ↔
      (g.state = .broken ∧ lk.state = .free ∨ g.state = .fault ∧ lk.state = .faulted) ∧ lk.queue = [] := by
  simp [unbindable]

/-- Settles O34: the branches of the three commands. -/
theorem bindUnbindAndClearRouteFault : Obligations.BindUnbindAndClearRouteFault := by
  refine ⟨fun s p seq group lock guardTime confirmTime h => ?_, fun s p seq g h => ?_, fun s p seq g h => ?_⟩
  · intro u
    have hexec : exec (.bindRoute p seq group lock guardTime confirmTime) s =
        .next (carryBindRoute p group lock guardTime confirmTime u) := exec_instr_carriedOut h
    rw [hexec]
    refine ⟨fun hrange => ?_, fun g l hg hl hl0 hguard => ?_⟩
    · rw [carryBindRoute_range, h.refuse]
      rintro ⟨h1, h2, h3, h4⟩
      obtain hr | hr | hr | hr := hrange
      · omega
      · omega
      · omega
      · simp [hr] at h4
    · intro free
      have hfree : bindable (u.group g) (u.lock l) = true ↔ free := bindable_iff
      have hin : ¬(l = 0 ∨ guardTime = 0) := not_or.mpr ⟨hl0, hguard⟩
      simp only [carryBindRoute, groupArg_of_toNat hg, lockArg_of_toNat hl, if_neg hin]
      refine ⟨fun hf => ?_, fun hf => ?_⟩
      · rw [if_pos (Bool.eq_false_iff.mpr (mt hfree.mp hf)), h.refuse]
      · rw [if_neg (by simp [hfree.mpr hf])]
        exact congrArg _ (h.respond (by rfl) _ _)
  · intro u
    have hexec : exec (.unbindRoute p seq (argByte g)) s = .next (carryUnbindRoute p (argByte g) u) :=
      exec_instr_carriedOut h
    rw [hexec]
    refine ⟨fun hs => ?_, fun l hs hl => ?_⟩
    · have hrefuse : carryUnbindRoute p (argByte g) u = u.refuse p .state := by
        simp [carryUnbindRoute, u, hs]
      rw [hrefuse, h.refuse]
    · intro apart
      have hapart : unbindable (u.group g) (u.lock l) = true ↔ apart := unbindable_iff
      have hl' : (u.group g).lock = some l := hl
      have hs' : (u.group g).state ≠ .unbound := hs
      simp only [carryUnbindRoute, groupArg_argByte, if_neg hs', hl']
      refine ⟨fun hf => ?_, fun hf => ?_⟩
      · rw [if_pos (Bool.eq_false_iff.mpr (mt hapart.mp hf)), h.refuse]
      · rw [if_neg (by simp [hapart.mpr hf])]
        exact congrArg _ (h.respond (by rfl) _ _)
  · intro u
    have hexec : exec (.clearRouteFault p seq (argByte g)) s = .next (carryClearRouteFault p (argByte g) u) :=
      exec_instr_carriedOut h
    rw [hexec]
    refine ⟨fun hs => ?_, fun hs => ?_⟩
    · have hrefuse : carryClearRouteFault p (argByte g) u = u.refuse p .state := by
        simp [carryClearRouteFault, u, hs]
      rw [hrefuse, h.refuse]
    · simp only [carryClearRouteFault, groupArg_argByte, u, State.group_carrying, hs, ne_eq, not_true_eq_false, if_false]
      exact congrArg _ (h.respond (by rfl) _ _)

end Sys2Proof.Machine
end

section
/-! The first two stages of RESTART (R158, R159). -/

namespace Sys2Proof.Machine

/-! ### The first stage -/

section
variable {e : Engine}

theorem Engine.takeFirstStage_of_stretched (h : e.state = .stretched) :
    e.takeFirstStage = { e with memory := none, abortEndings := true } := by
  simp [Engine.takeFirstStage, h]

theorem Engine.takeFirstStage_of_ownTeardown (h : e.state = .executing) (hw : e.wait = .ownTeardown) :
    e.takeFirstStage = { e with memory := none, resp := Record.restarted, wait := .restartEnd } := by
  simp [Engine.takeFirstStage, h, hw]

theorem Engine.takeFirstStage_of_released (h1 : e.state ≠ .executing) (h2 : e.state ≠ .stretched) :
    e.takeFirstStage = { e with memory := none, resp := Record.restarted } := by
  cases h : e.state with
  | executing => exact absurd h h1
  | stretched => exact absurd h h2
  | idle | receiving | sending | ignoring => simp [Engine.takeFirstStage, h]

theorem State.engine_firstStage (s : State) (p q : Port) :
    (s.firstStage p).engine q = if q = p then s.engine q else (s.engine q).takeFirstStage := by
  simp [State.firstStage, State.engine]

end

/-- Settles O35: each other engine takes the first stage by its state. -/
theorem restartFirstStageReachesTheEngines : Obligations.RestartFirstStageReachesTheEngines := by
  intro s p seq h
  set u := s.carrying p seq .restart with hu
  have hother (q : Port) (hq : q ≠ p) : (carryRestart p u).engine q = (s.engine q).takeFirstStage := by
    have hq' : u.engine q = s.engine q := by simp [hu, hq.symm]
    change (((u.firstStage p).setEngine p { (u.firstStage p).engine p with wait := .restartStages })).engine q = _
    rw [State.engine_setEngine, if_neg hq.symm, State.engine_firstStage, if_neg hq, hq']
  refine ⟨carryRestart p u, exec_instr_carriedOut h, ?_, ?_, rfl, fun q hq => ⟨fun h1 h2 => ?_, fun h1 => ?_, fun h1 h2 => ?_⟩, ?_⟩
  · change (((u.firstStage p).setEngine p { (u.firstStage p).engine p with wait := .restartStages })).engine p = _
    rw [State.engine_setEngine, if_pos rfl, State.engine_firstStage, if_pos rfl]
    simp [hu]
  · change u.session p = _
    simp [hu]
  · rw [hother q hq, Engine.takeFirstStage_of_released h1 h2]
    rfl
  · rw [hother q hq, Engine.takeFirstStage_of_stretched h1]
  · rw [hother q hq, Engine.takeFirstStage_of_ownTeardown h1 h2]
    rfl
  · constructor
    case engines => exact fun q hq => absurd (List.mem_finRange q) hq
    case sessions =>
      intro q hq
      have hne : p ≠ q := by rintro rfl; simp at hq
      change u.session q = _
      simp [hu, hne]
    case restart => simp
    all_goals (intros; rfl)

/-! ### The second stage -/

section
variable {s : State}

@[simp] theorem State.session_restartSessions (p : Port) :
    s.restartSessions.session p = (s.session p).atRestart (s.teardownStep p) := by
  simp [State.restartSessions, State.discardPosts, State.session]

@[simp] theorem State.lock_restartLocks (l : LockId) :
    s.restartLocks.lock l = (s.lock l).atRestart fun g => (s.group g).select := by
  simp [State.restartLocks, State.lock]

@[simp] theorem State.group_restartLocks (g : GroupId) : s.restartLocks.group g = (s.group g).atRestart := by
  simp [State.restartLocks, State.group]

@[simp] theorem State.engine_restartLocks (p : Port) :
    s.restartLocks.engine p =
      if s.hasBlockingEntry p = true then { s.engine p with handed := (s.engine p).handed <|> some .aborted }
      else s.engine p := by
  simp [State.restartLocks, State.engine]

@[simp] theorem State.cell_restartMessages (c : CellId) : s.restartMessages.cell c = none := by
  simp [State.restartMessages, State.cell]

@[simp] theorem State.inbound_restartMessages (p : Port) :
    s.restartMessages.inbound p = { s.inbound p with queue := [], number := 0 } := by
  simp [State.restartMessages, State.inbound]

@[simp] theorem State.noticeQueue_restartNotices (p : Port) : s.restartNotices.noticeQueue p = NoticeQueue.reset := by
  simp [State.restartNotices, State.noticeQueue]

theorem State.hasBlockingEntry_iff {p : Port} : s.hasBlockingEntry p = true ↔ ∃ l, (s.lock l).blocks p = true := by
  simp [State.hasBlockingEntry, allLocks]

theorem State.firstStageTaken_iff : s.firstStageTaken = true ↔ ∀ p, (s.engine p).stageDeferred = false := by
  simp [State.firstStageTaken, allPorts]

/-- A block that has not taken the RESTART takes it once the first stage has been taken everywhere (R159). -/
theorem exec_restartSecondStage {r : Restart} {block : RestartBlock} (hr : s.restart = some r)
    (hfirst : ∀ p, (s.engine p).stageDeferred = false) (hnew : r.takenBy block = false) :
    exec (.restartSecondStage block) s = .next { s.takeSecondStage block with restart := some (r.mark block) } := by
  change execRestartSecondStage block s = _
  simp only [execRestartSecondStage, hr]
  exact if_pos ⟨State.firstStageTaken_iff.mpr hfirst, hnew⟩

/-- A step to a block that has taken the RESTART is not in flight any more (R105). -/
theorem State.block_of_teardownStep {block : RestartBlock} (h : s.restartTakenBy block = true) {p : Port} {t : Teardown}
    (ht : s.teardownStep p = some t) : t.step.block ≠ block := by
  rintro rfl
  obtain ⟨-, hnot⟩ := (State.teardownStep_eq_some s p t).mp ht
  simp [h] at hnot

theorem State.other_of_block {block : RestartBlock} (h : s.restartTakenBy block = true) {step : TeardownStep}
    (hstep : step.block = block) (p : Port) : ∀ t, s.teardownStep p = some t → t.step ≠ step :=
  fun _ ht hs => State.block_of_teardownStep h ht (hs ▸ hstep)

end

/-- Settles O36: what each of the three blocks does when it takes the RESTART. -/
theorem restartSecondStageAtThreeBlocks : Obligations.RestartSecondStageAtThreeBlocks := by
  intro s r hr hfirst
  refine ⟨fun hnew => ⟨_, exec_restartSecondStage hr hfirst hnew, fun p => ?_, ?_, ?_, rfl, ?_⟩,
    fun hnew => ⟨_, exec_restartSecondStage hr hfirst hnew, fun c => ?_, fun p => ?_, fun p => ?_, rfl, ?_⟩,
    fun hnew => ⟨_, exec_restartSecondStage hr hfirst hnew, fun p => ?_, fun p => ⟨?_, ?_⟩, rfl, ?_⟩⟩
  · have hsession : ({ s.takeSecondStage .session with restart := some (r.mark .session) } : State).session p =
        (s.session p).atRestart (s.teardownStep p) := State.session_restartSessions p
    rw [hsession]
    exact ⟨rfl, rfl, rfl, rfl, rfl, rfl, rfl, rfl, rfl, rfl, rfl⟩
  · exact List.filter_congr fun x _ => by cases x.notice.guarded <;> rfl
  · exact List.filter_congr fun x _ => by cases x.notice.guarded <;> rfl
  · constructor
    case sessions => exact fun q hq => absurd (List.mem_finRange q) hq
    case lockPosts | messagePosts | restart => simp
    all_goals (intros; rfl)
  · exact State.cell_restartMessages (s := s) c
  · exact State.inbound_restartMessages (s := s) p
  · refine exec_teardownFlush_of_other (State.other_of_block (block := .message) ?_ rfl p)
    rfl
  · constructor
    case cells => exact fun c hc => absurd (List.mem_finRange c) hc
    case inbounds => exact fun q hq => absurd (List.mem_finRange q) hq
    case restart => simp
    all_goals (intros; rfl)
  · refine ⟨State.noticeQueue_restartNotices (s := s) p, ?_⟩
    simp [State.attn, State.noticesCleared, Restart.mark]
  · exact exec_teardownPeerEnded_of_other (State.other_of_block (block := .notice) (by rfl) rfl p)
  · exact exec_teardownEnd_of_other (State.other_of_block (block := .notice) (by rfl) rfl p)
  · constructor
    case notices => exact fun q hq => absurd (List.mem_finRange q) hq
    case restart => simp
    all_goals (intros; rfl)

section
variable {lk : LockRec} {l : LockId}

/-- A RESTART leaves no holder, waiter or target at a lock, and its attributes and generation as they are (R25). -/
theorem LockRec.atRestart_cleared (lk : LockRec) (select : GroupId → Port) :
    (lk.atRestart select).holders = [] ∧ (lk.atRestart select).queue = [] ∧ (lk.atRestart select).target = none ∧
      (lk.atRestart select).gen = lk.gen ∧ (lk.atRestart select).sharedAllowed = lk.sharedAllowed ∧
      (lk.atRestart select).holdLimit = lk.holdLimit ∧ (lk.atRestart select).group = lk.group := by
  unfold LockRec.atRestart
  cases hg : lk.group with
  | none => exact ⟨rfl, rfl, rfl, rfl, rfl, rfl, rfl⟩
  | some g => cases lk.state <;> exact ⟨rfl, rfl, rfl, rfl, rfl, rfl, rfl⟩

theorem LockRec.atRestart_unbound (h : lk.group = none) (select : GroupId → Port) :
    (lk.atRestart select).state = .free ∧ (lk.atRestart select).vacatingFrom = none := by
  simp [LockRec.atRestart, h]

/-- A bound lock with a holder or a target vacates from the port its group selects (R25). -/
theorem LockRec.atRestart_vacates {g : GroupId} (hg : lk.group = some g)
    (hs : lk.state = .exclusive ∨ lk.state = .handover ∨ lk.state = .shared) (select : GroupId → Port) :
    (lk.atRestart select).state = .vacating ∧ (lk.atRestart select).vacatingFrom = some (select g) := by
  obtain hs | hs | hs := hs <;> simp [LockRec.atRestart, hg, hs]

/-- Every other bound lock keeps its state (R25). -/
theorem LockRec.atRestart_keeps {g : GroupId} (hg : lk.group = some g) (h1 : lk.state ≠ .exclusive)
    (h2 : lk.state ≠ .handover) (h3 : lk.state ≠ .shared) (select : GroupId → Port) :
    (lk.atRestart select).state = lk.state ∧
      (lk.atRestart select).vacatingFrom = if lk.state = .vacating then lk.vacatingFrom else none := by
  cases hs : lk.state <;> simp_all [LockRec.atRestart]

end

/-- A group's outputs after a RESTART (R82). -/
theorem Group.atRestart_eq (g : Group) :
    g.atRestart =
      if g.state = .making ∨ g.state = .made ∨ g.state = .broken ∧ ∃ o ∈ g.orders, o ≠ .breakRoute then
        { g with orders := [], state := .breaking, enable := false, timer := .guardTime g.guardUnits.toNat }
      else { g with orders := [] } := by
  unfold Group.atRestart
  cases hs : g.state with
  | making | made => simp [Group.startBreak]
  | broken => simp [Group.startBreak]
  | breaking | fault | unbound => simp

/-- Settles O37: what the lock table and the route block do when they take the RESTART. -/
theorem restartSecondStageAtLocksAndGroups : Obligations.RestartSecondStageAtLocksAndGroups := by
  intro s r hr hfirst hnew sound
  refine ⟨_, exec_restartSecondStage hr hfirst hnew, fun l => ?_, fun g => ?_, fun p => ?_, fun p l => ⟨?_, ?_⟩, rfl, ?_⟩
  · have hlock : ({ s.takeSecondStage .lockAndRoute with restart := some (r.mark .lockAndRoute) } : State).lock l =
        (s.lock l).atRestart fun g => (s.group g).select := State.lock_restartLocks l
    rw [hlock]
    obtain ⟨h1, h2, h3, h4, h5, h6, h7⟩ := LockRec.atRestart_cleared (s.lock l) fun g => (s.group g).select
    refine ⟨h1, h2, h3, h4, h5, h6, h7, fun hg => (LockRec.atRestart_unbound hg _).1, fun g hg => ⟨fun hs => ?_, fun ha hb => ?_⟩⟩
    · exact LockRec.atRestart_vacates hg (hs.imp_right .inl) _
    · have hshared : (s.lock l).state ≠ .shared := fun hs => by simp [(sound l).unbound_of_shared hs] at hg
      obtain ⟨hstate, hfrom⟩ := LockRec.atRestart_keeps hg ha hb hshared fun g => (s.group g).select
      refine ⟨hstate, hfrom.trans ?_⟩
      split
      · rfl
      · next hv => exact ((sound l).vacatingFrom_eq_none hv).symm
  · have hgroup : ({ s.takeSecondStage .lockAndRoute with restart := some (r.mark .lockAndRoute) } : State).group g =
        (s.group g).atRestart := State.group_restartLocks g
    rw [hgroup, Group.atRestart_eq]
    intro breaks
    exact ⟨fun hb => if_pos hb, fun hb => if_neg hb⟩
  · have hengine : ({ s.takeSecondStage .lockAndRoute with restart := some (r.mark .lockAndRoute) } : State).engine p =
        s.restartLocks.engine p := rfl
    rw [hengine, State.engine_restartLocks]
    simp only [State.hasBlockingEntry_iff]
    by_cases hb : ∃ l, (s.lock l).blocks p = true
    · rw [if_pos hb]
      cases hh : (s.engine p).handed <;> simp [hb]
    · rw [if_neg hb, if_neg fun hx => hb hx.2]
  · exact exec_teardownHoldings_of_other (State.other_of_block (block := .lockAndRoute) (by rfl) rfl p) l
  · exact exec_teardownWaits_of_other (State.other_of_block (block := .lockAndRoute) (by rfl) rfl p) l
  · constructor
    case engines => exact fun q hq => absurd (List.mem_finRange q) hq
    case locks => exact fun q hq => absurd (List.mem_finRange q) hq
    case groups => exact fun q hq => absurd (List.mem_finRange q) hq
    case restart => simp
    all_goals (intros; rfl)

end Sys2Proof.Machine
end

section
/-! Timers at the locks, the end of a stretch, and the route block (R19, R41, R42, R47, R60, R66 to R79, R188). -/

namespace Sys2Proof.Machine

/-- Settles O46: the branches of the two expiries. -/
theorem lockTimersExpire : Obligations.LockTimersExpire := by
  refine ⟨fun s l p => ⟨fun h hh ht => ?_, fun h hh ht => ?_, fun hh => ?_⟩, fun s l w d hw hd hnodup => ?_⟩
  · change execHoldLimitExpiry l p s = _
    simp only [execHoldLimitExpiry, hh, ht, if_true]
    rfl
  · change execHoldLimitExpiry l p s = _
    simp [execHoldLimitExpiry, hh, ht]
  · change execHoldLimitExpiry l p s = _
    simp [execHoldLimitExpiry, hh]
  · intro u guarded
    have hexec : exec (.deadlineExpiry l w.port) s = .next
        ((if w.blocking = true then u.endStretch w .expired else u.postGuarded w (.waitExpired l) none).grantPass l none) := by
      change execDeadlineExpiry l w.port s = _
      simp only [execDeadlineExpiry, LockRec.waiterOf_mem hnodup hw, hd, Option.isSome_some, if_true]
      rfl
    have hguard : u.sessionIs w.port w.epoch = true ↔ guarded := State.sessionIs_iff ..
    rw [hexec]
    refine ⟨fun hb hnone => ?_, fun hb hg => ?_, fun hb hg => ?_⟩
    · simp only [hb, if_true, State.endStretch, hguard]
      rw [State.handEnding_of_none u hnone]
      rfl
    · simp only [hb, Bool.false_eq_true, if_false, State.postGuarded, if_pos (hguard.mpr hg)]
      rfl
    · simp only [hb, Bool.false_eq_true, if_false, State.postGuarded, if_neg (mt hguard.mp hg)]

/-! ### The end of a stretch -/

section
variable {lk : LockRec} {p : Port}

/-- The blocking entry in the queue is the first and only entry of its port (R42). -/
theorem LockRec.blockingEntry_of_waiter (hnodup : (lk.queue.map Waiter.port).Nodup) {w : Waiter} (hw : w ∈ lk.queue)
    (hb : w.blocking = true) : lk.blockingEntry w.port = some w := by
  have hfind : lk.queue.find? (fun o => decide (o.port = w.port) && o.blocking) = some w := by
    induction hq : lk.queue generalizing lk with
    | nil => simp [hq] at hw
    | cons x xs ih =>
      rw [hq] at hnodup hw
      obtain ⟨hx, hxs⟩ := List.nodup_cons.mp hnodup
      obtain rfl | hw := List.mem_cons.mp hw
      · simp [hb]
      · have hne : x.port ≠ w.port := fun h => hx (h ▸ List.mem_map_of_mem hw)
        simpa [hne] using ih (lk := { lk with queue := xs }) hxs hw rfl
  simp [LockRec.blockingEntry, hfind]

theorem LockRec.blockingEntry_of_target {w : Waiter} (ht : lk.target = some w) (hq : w.port ∉ lk.queue.map Waiter.port)
    (hb : w.blocking = true) : lk.blockingEntry w.port = some w := by
  have hfind : lk.queue.find? (fun o => decide (o.port = w.port) && o.blocking) = none := by
    refine List.find?_eq_none.mpr fun o ho => ?_
    have hne : o.port ≠ w.port := fun h => hq (h ▸ List.mem_map_of_mem ho)
    simp [hne]
  simp [LockRec.blockingEntry, hfind, ht, hb]

theorem LockRec.blockingEntry_eq_none : lk.blockingEntry p = none ↔ lk.blocks p = false := by
  unfold LockRec.blockingEntry LockRec.blocks
  cases lk.target <;> simp [List.find?_eq_none]

/-- Entries of other ports keep their flag (R42). -/
theorem map_clearBlocking_of_not_mem {queue : List Waiter} (h : p ∉ queue.map Waiter.port) :
    queue.map (clearBlocking p) = queue := by
  conv_rhs => rw [← List.map_id queue]
  exact List.map_congr_left fun o ho => if_neg fun e : o.port = p => h (e ▸ List.mem_map_of_mem ho)

end

/-- Settles O47: the stretch limit, its claim and the ending. -/
theorem stretchEndsByLimitOrEnding : Obligations.StretchEndsByLimitOrEnding := by
  refine ⟨fun s p hs ht => ?_, fun s p l hclaim sound => ?_, fun s p ending hs hh => ?_⟩
  · change execStretchLimitExpiry p s = _
    simp only [execStretchLimitExpiry]
    exact if_pos ⟨hs, ht⟩
  · intro handing
    obtain ⟨-, -, hout⟩ := sound.places
    have hexec (w : Waiter) (hp : w.port = p) (hw : (s.lock l).blockingEntry p = some w) :
        exec (.limitClaim p) s = .next ((s.setEngine p (handing w)).setLock l
          { s.lock l with
            queue := (s.lock l).queue.map (clearBlocking p), target := (s.lock l).target.map (clearBlocking p) }) := by
      change execLimitClaim p s = _
      simp only [execLimitClaim, hclaim, hw, State.endStretch, State.handEnding, hp]
      simp only [State.engine_setLock, State.engine_setEngine, if_true, handing, ← State.sessionIs_iff]
      simp only [State.setLock, State.setEngine, Vector.set_set]
      rfl
    refine ⟨fun w hw hp hb => ?_, fun w hw hp hb => ?_, fun hnone => ?_⟩
    · subst hp
      rw [hexec w rfl (LockRec.blockingEntry_of_waiter sound.ports_nodup hw hb)]
      have htarget : (s.lock l).target.map (clearBlocking w.port) = (s.lock l).target := by
        cases ht : (s.lock l).target with
        | none => rfl
        | some o =>
          obtain ⟨-, -, ho⟩ := hout o ht
          have hne : o.port ≠ w.port := fun e => ho (e ▸ List.mem_map_of_mem hw)
          simp [clearBlocking, hne]
      have hqueue : (s.lock l).queue.map (clearBlocking w.port) =
          (s.lock l).queue.map fun o => if o.port = w.port then { w with blocking := false } else o := by
        refine List.map_congr_left fun o ho => ?_
        by_cases he : o.port = w.port
        · have how : o = w := List.inj_on_of_nodup_map sound.ports_nodup ho hw he
          simp [clearBlocking, how]
        · simp [clearBlocking, he]
      rw [htarget, hqueue]
    · subst hp
      obtain ⟨-, -, hq⟩ := hout w hw
      rw [hexec w rfl (LockRec.blockingEntry_of_target hw hq hb), map_clearBlocking_of_not_mem hq, hw]
      simp [clearBlocking]
    · change execLimitClaim p s = _
      simp only [execLimitClaim, hclaim, LockRec.blockingEntry_eq_none.mpr hnone]
  · intro record
    have hstored : (s.engine p).storeEnding ending = { s.engine p with
        state := .ignoring, resp := { status := record.1, echo := (s.engine p).execSeq, data := record.2 }
        stretchTimer := none, stretchLock := none, handed := none, limitClaim := none, abortEndings := false
        busTimer := some 35 } := by
      simp only [Engine.storeEnding, record]
      cases (s.engine p).abortEndings <;> cases ending <;> rfl
    change execStretchEnding p s = _
    simp only [execStretchEnding, hs, hh, hstored]

/-! ### The route block -/

/-- Settles O49: the three timers of a group. -/
theorem groupTimersEnd : Obligations.GroupTimersEnd := by
  refine ⟨fun s g n ht => ?_, fun s g n hs => ⟨fun ht hc => ?_, fun ht hc hf => ?_, fun ht => ?_⟩⟩
  · intro broken
    refine ⟨fun hs => ?_, fun hs hc => ?_⟩
    · change execGuardExpiry g s = _
      simp only [execGuardExpiry, hs, ht]
      rfl
    · change execFaultClearGuardExpiry g s = _
      simp only [execFaultClearGuardExpiry, hs, hc, ht]
      rfl
  · change execSettleExpiry g s = _
    simp only [execSettleExpiry, hs, ht, Group.settle, if_pos hc]
    rfl
  · change execSettleExpiry g s = _
    have hnot : ¬((s.group g).confirmMs = 0 ∨ (s.group g).senseFiltered = true) := not_or.mpr ⟨hc, by simp [hf]⟩
    simp only [execSettleExpiry, hs, ht, Group.settle, if_neg hnot]
  · change execConfirmExpiry g s = _
    simp only [execConfirmExpiry, hs, ht]
    rfl

/-- Settles O50: the input, the filter, and what they do to the route. -/
theorem senseMakesAndFaultsRoutes : Obligations.SenseMakesAndFaultsRoutes := by
  intro s g sound x high low
  obtain ⟨-, -, -, -, -, hinput, -⟩ := sound
  refine ⟨fun h1 h2 h3 => ?_, fun h => ?_, fun h => ?_, fun h => ?_, fun h1 h2 h3 => ?_, fun h1 h2 => ?_⟩
  · change Host.Outcome.next (s.setGroup g x.senseHigh) = _
    rw [Group.senseHigh, if_pos ⟨h3, h1, h2⟩]
    simp only [Group.finishMake, Group.sendReport, high, ← h2]
  · change Host.Outcome.next (s.setGroup g x.senseHigh) = _
    have hnot : ¬(x.senseFiltered = false ∧ x.state = .making ∧ x.enable = true) := by
      rintro ⟨ha, hb, hc⟩
      simp [ha, hb, hc] at h
    rw [Group.senseHigh, if_neg hnot]
  · change Host.Outcome.next (s.setGroup g x.senseLow) = _
    have hfiltered : x.senseFiltered = true := hinput h
    simp only [Group.senseLow, if_pos h, if_pos hfiltered]
    rfl
  · change Host.Outcome.next (s.setGroup g x.senseLow) = _
    simp only [Group.senseLow, h, Bool.false_eq_true, if_false, x, State.setGroup_self]
  · obtain ⟨n, hn⟩ := Option.ne_none_iff_exists'.mp h1
    change execSenseLoss g s = _
    simp only [execSenseLoss, show (s.group g).senseTimer = some n from hn]
    rw [Group.senseLost, if_pos ⟨h2, h3⟩]
    rfl
  · obtain ⟨n, hn⟩ := Option.ne_none_iff_exists'.mp h1
    change execSenseLoss g s = _
    simp only [execSenseLoss, show (s.group g).senseTimer = some n from hn]
    rw [Group.senseLost, if_neg fun hx => h2.elim (· hx.1) hx.2]

section
variable {s : State} {g : GroupId} {l : LockId} {rest : List Report}

/-- The report that is taken leaves the list, and the bound lock takes it (R64). -/
theorem State.dropReport_atBoundLock {r : Report} (hr : (s.group g).reports = r :: rest) (hl : (s.group g).lock = some l)
    (f : State → LockId → State) :
    (s.dropReport g).atBoundLock g f = f (s.setGroup g { s.group g with reports := rest }) l := by
  simp [State.dropReport, State.atBoundLock, hr, hl]

theorem exec_routeClear (hr : (s.group g).reports = .clear :: rest) (hl : (s.group g).lock = some l) :
    exec (.routeClear g) s = .next ((s.setGroup g { s.group g with reports := rest }).takeRouteClear l) := by
  change execRouteClear g s = _
  rw [← State.dropReport_atBoundLock hr hl State.takeRouteClear]
  simp only [execRouteClear, hr]

theorem exec_routeMade {q : Port} (hr : (s.group g).reports = .made q :: rest) (hl : (s.group g).lock = some l) :
    exec (.routeMade g) s = .next ((s.setGroup g { s.group g with reports := rest }).takeRouteMade l) := by
  change execRouteMade g s = _
  rw [← State.dropReport_atBoundLock hr hl State.takeRouteMade]
  simp only [execRouteMade, hr]

theorem exec_routeFault (hr : (s.group g).reports = .fault :: rest) (hl : (s.group g).lock = some l) :
    exec (.routeFault g) s = .next ((s.setGroup g { s.group g with reports := rest }).takeRouteFault l) := by
  change execRouteFault g s = _
  rw [← State.dropReport_atBoundLock hr hl State.takeRouteFault]
  simp only [execRouteFault, hr]

end

/-- Settles O51: each report at each state of the lock that gives it an outcome. -/
theorem reportsAreTakenAtTheLock : Obligations.ReportsAreTakenAtTheLock := by
  refine ⟨fun s g l rest hl sound => ?_, fun s g l rest hr hl sound => ?_⟩
  · intro u
    have hlock : u.lock l = s.lock l := rfl
    refine ⟨fun hr => ⟨fun hs => ?_, fun h1 h2 => ?_⟩, fun q hr => ⟨fun w hw => ?_, fun hs => ?_⟩⟩
    · rw [exec_routeClear hr hl]
      obtain hs | hs := hs <;> simp only [State.takeRouteClear, State.lock_setGroup, hs] <;> rfl
    · rw [exec_routeClear hr hl]
      cases hs : (s.lock l).state with
      | vacating => exact absurd hs h1
      | faulted => exact absurd hs h2
      | free | exclusive | shared | handover => simp only [State.takeRouteClear, State.lock_setGroup, hs]; rfl
    · have hs := sound.state_of_target hw
      have hholders := sound.holders_eq_nil (by simp [hs]) (by simp [hs])
      rw [exec_routeMade hr hl]
      simp only [State.takeRouteMade, State.lock_setGroup, hs, hw,
        LockRec.grant_of_no_other_holder (lk := s.lock l) (m := .exclusive) (p := w.port) (by simp [hholders])]
      rfl
    · rw [exec_routeMade hr hl]
      have hnone := sound.target_eq_none hs
      simp only [State.takeRouteMade, State.lock_setGroup, hnone]
      cases (s.lock l).state <;> rfl
  · intro u faulted
    refine ⟨fun w hw => ?_, fun h hs hh => ?_, fun hs => ?_⟩
    · intro guarded
      have hs := sound.state_of_target hw
      have hrecord : ({ s.lock l with state := .faulted, target := none } : LockRec) =
          { s.lock l with state := .faulted, holders := [], vacatingFrom := none, target := none } := by
        rw [← sound.holders_eq_nil (by simp [hs]) (by simp [hs]), ← sound.vacatingFrom_eq_none (by simp [hs])]
      have hexec : exec (.routeFault g) s = .next (faulted.failTarget l w) := by
        rw [exec_routeFault hr hl]
        simp only [State.takeRouteFault, State.lock_setGroup, hs, hw, hrecord]
        rfl
      have hguard : faulted.sessionIs w.port w.epoch = true ↔ guarded := State.sessionIs_iff ..
      rw [hexec]
      refine ⟨fun hb hnone => ?_, fun hb hg => ?_, fun hb hg => ?_⟩
      · simp only [State.failTarget, hb, if_true, State.endStretch, hguard]
        rw [State.handEnding_of_none faulted hnone]
        rfl
      · simp only [State.failTarget, hb, Bool.false_eq_true, if_false, State.postGuarded, if_pos (hguard.mpr hg)]
        rfl
      · simp only [State.failTarget, hb, Bool.false_eq_true, if_false, State.postGuarded, if_neg (mt hguard.mp hg)]
    · have hrecord : ({ s.lock l with state := .faulted, holders := [] } : LockRec) =
          { s.lock l with state := .faulted, holders := [], vacatingFrom := none, target := none } := by
        rw [← sound.target_eq_none (by simp [hs]), ← sound.vacatingFrom_eq_none (by simp [hs])]
      rw [exec_routeFault hr hl]
      simp only [State.takeRouteFault, State.lock_setGroup, hs, hh, State.postRevoked_eq, hrecord]
      rfl
    · have hrecord : ({ s.lock l with state := .faulted, vacatingFrom := none } : LockRec) =
          { s.lock l with state := .faulted, holders := [], vacatingFrom := none, target := none } := by
        rw [← sound.target_eq_none (by simp [hs]), ← sound.holders_eq_nil (by simp [hs]) (by simp [hs])]
      rw [exec_routeFault hr hl]
      simp only [State.takeRouteFault, State.lock_setGroup, hs, hrecord]
      rfl

end Sys2Proof.Machine
end

section
/-! The two-wire link: bus conditions, addresses, the bytes of a write, reads and the bus timeout (R162 to R164, R180 to R192). -/

namespace Sys2Proof.Machine

/-! ### What a sound engine holds in each state -/

section
variable {e : Engine}

theorem Engine.Sound.addressed_eq_false (h : e.Sound) (hs : e.state ≠ .receiving) : e.addressed = false := by
  obtain ⟨-, -, haddressed, -⟩ := h
  simpa using mt haddressed hs

theorem Engine.Sound.frame_eq_nil (h : e.Sound) (ha : e.addressed = false) : e.frame = [] := by
  obtain ⟨hframe, -⟩ := h
  by_contra hne
  simp [hframe hne] at ha

theorem Engine.Sound.expected_eq_none (h : e.Sound) (ha : e.addressed = false) : e.expected = none := by
  obtain ⟨-, hexpected, -⟩ := h
  cases hx : e.expected with
  | none => rfl
  | some n => simp [hexpected (by simp [hx])] at ha

theorem Engine.Sound.snapshot_eq_none (h : e.Sound) (hs : e.state ≠ .sending) : e.snapshot = none := by
  obtain ⟨-, -, -, hsnapshot, -⟩ := h
  simpa using mt hsnapshot.mp hs

theorem not_isEmpty_eq_decide {α : Type} [DecidableEq α] (xs : List α) : (!xs.isEmpty) = decide (xs ≠ []) := by
  cases xs <;> simp

/-- SCL is held in EXECUTING and STRETCHED only (R180). -/
theorem Engine.holdsScl_eq_false (h1 : e.state ≠ .executing) (h2 : e.state ≠ .stretched) : e.holdsScl = false := by
  cases hs : e.state <;> simp_all [Engine.holdsScl]

/-! ### START and STOP -/

/-- A START at an engine that sees it (R183). -/
theorem Engine.takeStart_of_sound (h : e.Sound) (h1 : e.state ≠ .executing) (h2 : e.state ≠ .stretched) :
    e.takeStart =
      { e with
        state := .receiving, addressed := false, frame := [], expected := none, snapshot := none
        linkError := e.linkError || decide (e.frame ≠ []), busTimer := some Config.busTimeout } := by
  cases hs : e.state with
  | executing => exact absurd hs h1
  | stretched => exact absurd hs h2
  | receiving =>
    simp [Engine.takeStart, hs, Engine.dropPartialFrame, not_isEmpty_eq_decide, h.snapshot_eq_none (by simp [hs])]
  | idle | ignoring =>
    simp [Engine.takeStart, hs, h.snapshot_eq_none (by simp [hs]),
      h.frame_eq_nil (h.addressed_eq_false (by simp [hs]))]
  | sending => simp [Engine.takeStart, hs, h.frame_eq_nil (h.addressed_eq_false (by simp [hs]))]

/-- A STOP that ends something (R183). -/
theorem Engine.takeStop_of_sound (h : e.Sound) (h1 : e.state ≠ .executing) (h2 : e.state ≠ .stretched)
    (h3 : e.state ≠ .idle) :
    e.takeStop =
      { e with
        state := .idle, addressed := false, frame := [], expected := none, snapshot := none
        linkError := e.linkError || decide (e.frame ≠ []), busTimer := none } := by
  cases hs : e.state with
  | executing => exact absurd hs h1
  | stretched => exact absurd hs h2
  | idle => exact absurd hs h3
  | receiving =>
    simp [Engine.takeStop, hs, Engine.dropPartialFrame, not_isEmpty_eq_decide, h.snapshot_eq_none (by simp [hs])]
  | sending | ignoring =>
    have ha := h.addressed_eq_false (by simp [hs])
    simp [Engine.takeStop, hs, h.snapshot_eq_none, ha, h.frame_eq_nil ha, h.expected_eq_none ha]

end

/-- Settles O40: the two conditions at each state of the engine. -/
theorem busConditionsMoveTheEngine : Obligations.BusConditionsMoveTheEngine := by
  intro s p sound e cleared
  refine ⟨fun hs c => ?_, fun hs => ?_, fun h1 h2 => ?_, fun h1 h2 h3 => ?_⟩
  · have hkeep : e.takeStart = e ∧ e.takeStop = e := by
      obtain hs | hs := hs <;> simp [Engine.takeStart, Engine.takeStop, hs]
    cases c with
    | start =>
      change Host.Outcome.next (s.setEngine p e.takeStart) = _
      rw [hkeep.1, State.setEngine_self]
    | stop =>
      change Host.Outcome.next (s.setEngine p e.takeStop) = _
      rw [hkeep.2, State.setEngine_self]
  · have hkeep : (s.engine p).takeStop = s.engine p := by
      simp [Engine.takeStop, show (s.engine p).state = .idle from hs]
    change Host.Outcome.next (s.setEngine p (s.engine p).takeStop) = _
    rw [hkeep, State.setEngine_self]
  · change Host.Outcome.next (s.setEngine p (s.engine p).takeStart) = _
    rw [Engine.takeStart_of_sound sound h1 h2]
    rfl
  · change Host.Outcome.next (s.setEngine p (s.engine p).takeStop) = _
    rw [Engine.takeStop_of_sound sound h1 h2 h3]

/-! ### The address byte -/

/-- The write address is twice 0x3C plus the strap value, the read address one more (R181). -/
theorem address_toNat (strap : BitVec 2) :
    (writeAddress strap).toNat = 2 * (0x3C + strap.toNat) ∧ (readAddress strap).toNat = 2 * (0x3C + strap.toNat) + 1 := by
  revert strap
  decide

theorem eq_writeAddress_iff {b : Byte} {strap : BitVec 2} : b = writeAddress strap ↔ b.toNat = 2 * (0x3C + strap.toNat) := by
  rw [← BitVec.toNat_inj, (address_toNat strap).1]

theorem eq_readAddress_iff {b : Byte} {strap : BitVec 2} :
    b = readAddress strap ↔ b.toNat = 2 * (0x3C + strap.toNat) + 1 := by
  rw [← BitVec.toNat_inj, (address_toNat strap).2]

theorem readAddress_ne_writeAddress (strap : BitVec 2) : readAddress strap ≠ writeAddress strap := by
  intro h
  rw [eq_writeAddress_iff, (address_toNat strap).2] at h
  omega

/-- Settles O41: the three kinds of address byte, and the byte that passes. -/
theorem addressByteOpensAWriteOrARead : Obligations.AddressByteOpensAWriteOrARead := by
  intro s p b sound e address
  change (_ → _ → (_ → Host.Outcome.next (s.setEngine p (e.takeAddress b)) = _) ∧
    (_ → Host.Outcome.next (s.setEngine p (e.takeAddress b)) = _) ∧
    (_ → _ → Host.Outcome.next (s.setEngine p (e.takeAddress b)) = _)) ∧
    (_ → Host.Outcome.next (s.setEngine p (e.takeAddress b)) = _) ∧
    (_ → Host.Outcome.next (s.setEngine p (e.takeAddress b)) = _)
  have hpass (hs : e.state ≠ .receiving) : e.takeAddress b = e.passByte := if_neg fun h => hs h.1
  refine ⟨fun hs ha => ⟨fun hb => ?_, fun hb => ?_, fun hw hr => ?_⟩, fun hs => ?_, fun hs => ?_⟩
  · have hb' : b = writeAddress e.strap := eq_writeAddress_iff.mpr hb
    have hframe : e.frame = [] := Engine.Sound.frame_eq_nil sound ha
    have hexpected : e.expected = none := Engine.Sound.expected_eq_none sound ha
    rw [Engine.takeAddress, if_pos ⟨hs, ha⟩, if_pos hb']
    simp [hframe, hexpected, crc8, Config.busTimeout]
  · have hb' : b = readAddress e.strap := eq_readAddress_iff.mpr hb
    rw [Engine.takeAddress, if_pos ⟨hs, ha⟩, if_neg (hb' ▸ readAddress_ne_writeAddress e.strap), if_pos hb']
    rfl
  · rw [Engine.takeAddress, if_pos ⟨hs, ha⟩, if_neg (mt eq_writeAddress_iff.mp hw), if_neg (mt eq_readAddress_iff.mp hr)]
    rfl
  · rw [hpass (by simp [hs]), Engine.passByte_lets_pass (.inl hs)]
    simp [hs]
  · rw [hpass (by simp [hs]), Engine.passByte_lets_pass (.inr hs)]
    simp [hs, Config.busTimeout]

/-! ### The bytes of a write -/

/-- The length that the bytes of a frame so far make the engine expect (R184). -/
def expectedOf (frame : List Byte) : Option Nat :=
  match frame[1]? with
  | none => none
  | some code =>
    match frameLength code with
    | some (.fixed n) => some n
    | some .byLen => frame[5]?.map fun len => 7 + len.toNat
    | none => none

/-- The engine in a write, after START, write address and these bytes of a frame. -/
def Engine.inWrite (e : Engine) (frame : List Byte) : Engine :=
  { e with
    state := .receiving, addressed := true, frame := frame, expected := expectedOf frame
    check := crc8 (writeAddress e.strap :: frame), acked := true, busTimer := some Config.busTimeout }

/-- The next byte of a frame is acknowledged: it is not CHECK, a CMD byte is a command code, and the len of a SEND is at most 16
(R184, R185). -/
def AcceptsByte (frame : List Byte) (b : Byte) : Prop :=
  expectedOf frame ≠ some (frame.length + 1) ∧ (frame.length = 1 → frameLength b ≠ none) ∧
    (frame.length = 5 → frame[1]? = some 0x20 → b.toNat ≤ 16)

/-- All these bytes are acknowledged one after the other. -/
def AcceptsBytes (frame bytes : List Byte) : Prop :=
  ∀ pre b post, bytes = pre ++ b :: post → AcceptsByte (frame ++ pre) b

section
variable (e : Engine) {frame : List Byte} {b : Byte}

theorem Engine.inWrite_acceptByte (x : Option Nat) (hx : expectedOf (frame ++ [b]) = x) :
    (e.inWrite frame).acceptByte b x = e.inWrite (frame ++ [b]) := by
  subst hx
  simp [Engine.acceptByte, Engine.inWrite, crc8]

theorem expectedOf_of_length_le {frame : List Byte} (h : frame.length ≤ 1) : expectedOf frame = none := by
  simp [expectedOf, List.getElem?_eq_none h]

/-- A further byte leaves the expected length, but for CMD and the len of a SEND (R184). -/
theorem expectedOf_append (h1 : frame.length ≠ 1) (h5 : frame.length = 5 → frame[1]? ≠ some 0x20) :
    expectedOf (frame ++ [b]) = expectedOf frame := by
  obtain hlt | hge := Nat.lt_or_ge frame.length 2
  · have h0 : frame = [] := List.length_eq_zero_iff.mp (by omega)
    subst h0
    rfl
  · have hcode : (frame ++ [b])[1]? = frame[1]? := List.getElem?_append_left (by omega)
    unfold expectedOf
    rw [hcode]
    cases hc : frame[1]? with
    | none => rfl
    | some code =>
      cases hl : frameLength code with
      | none => simp only [hl]
      | some fl =>
        cases fl with
        | fixed n => simp only [hl]
        | byLen =>
          have hsend : code = 0x20 := by
            unfold frameLength at hl
            repeat' split at hl
            all_goals first | assumption | simp at hl
          have hlen : frame.length ≠ 5 := fun h => h5 h (by rw [hc, hsend])
          have hfive : (frame ++ [b])[5]? = frame[5]? := by
            obtain h | h := Nat.lt_or_ge 5 frame.length
            · exact List.getElem?_append_left h
            · rw [List.getElem?_eq_none (by simp; omega), List.getElem?_eq_none (by omega)]
          simp only [hfive]

/-- An acknowledged byte joins the frame (R184). -/
theorem Engine.inWrite_takeByte (h : AcceptsByte frame b) : (e.inWrite frame).takeByte b = e.inWrite (frame ++ [b]) := by
  obtain ⟨hcheck, hcode, hlen⟩ := h
  have htake : (e.inWrite frame).takeByte b = (e.inWrite frame).takeFrameByte b := if_pos ⟨rfl, rfl⟩
  have hexp : (e.inWrite frame).expected = expectedOf frame := rfl
  have hframe : (e.inWrite frame).frame = frame := rfl
  rw [htake, Engine.takeFrameByte, hexp, hframe, if_neg hcheck]
  by_cases h1 : frame.length = 1
  · rw [if_pos h1]
    have hlast : (frame ++ [b])[1]? = some b := by rw [← h1]; simp
    cases hl : frameLength b with
    | none => exact absurd hl (hcode h1)
    | some fl =>
      cases fl with
      | fixed n => exact e.inWrite_acceptByte _ (by simp [expectedOf, hlast, hl])
      | byLen =>
        have hfive : (frame ++ [b])[5]? = none := List.getElem?_eq_none (by simp [h1])
        exact e.inWrite_acceptByte _ (by simp only [expectedOf, hlast, hl, hfive]; rfl)
  · rw [if_neg h1]
    by_cases h5 : frame.length = 5 ∧ frame[1]? = some 0x20
    · obtain ⟨h5, hsend⟩ := h5
      rw [if_pos ⟨h5, hsend⟩, if_pos (show b.toNat ≤ Config.maxPayload from hlen h5 hsend)]
      have hcode' : (frame ++ [b])[1]? = some 0x20 := by rw [List.getElem?_append_left (by omega), hsend]
      have hlast : (frame ++ [b])[5]? = some b := by rw [← h5]; simp
      have hfl : frameLength 0x20 = some .byLen := by decide
      exact e.inWrite_acceptByte _ (by simp only [expectedOf, hcode', hfl, hlast]; rfl)
    · rw [if_neg h5]
      exact e.inWrite_acceptByte _ (expectedOf_append h1 fun ha hb => h5 ⟨ha, hb⟩)

/-- A byte that is not at the place of CHECK completes nothing. -/
theorem Engine.inWrite_completes (h : expectedOf frame ≠ some (frame.length + 1)) : (e.inWrite frame).completes b = false :=
  decide_eq_false fun hc => h hc.2.2.1

/-- Acknowledged bytes join the frame one after the other, and the write goes on with what follows (R184). -/
theorem Engine.inWrite_takeBytes {bytes : List Byte} (h : AcceptsBytes frame bytes) (more : List Byte) :
    (e.inWrite frame).takeBytes (bytes ++ more) = (e.inWrite (frame ++ bytes)).takeBytes more := by
  induction bytes generalizing frame with
  | nil => simp
  | cons b bytes ih =>
    have hb : AcceptsByte frame b := by simpa using h [] b bytes rfl
    rw [List.cons_append, Engine.takeBytes_step (e.inWrite_completes hb.1), e.inWrite_takeByte hb, ih]
    · simp
    · intro pre c post hsplit
      simpa using h (b :: pre) c post (by simp [hsplit])

end

/-! ### The frames of the commands -/

/-- A frame of the length that its code, or the len of a SEND, calls for (R162, R184). -/
def FrameFits (frame : List Byte) : Prop :=
  ∃ code, frame[1]? = some code ∧
    (frameLength code = some (.fixed (frame.length + 1)) ∨
      frameLength code = some .byLen ∧ ∃ len : Byte, frame[5]? = some len ∧ len.toNat ≤ 16 ∧
        frame.length + 1 = 7 + len.toNat)

/-- The frame of every command fits. -/
theorem HostCommand.frameFits {cmd : HostCommand} (h : cmd.lenAccepted = true) (seq : Byte) :
    FrameFits (cmd.frameBytes seq) := by
  refine ⟨cmd.code, rfl, ?_⟩
  cases cmd with
  | send dest tag flags payload =>
    have hlen : payload.length ≤ 16 := of_decide_eq_true h
    have hbyte : (natByte payload.length).toNat = payload.length := natByte_toNat (by omega)
    refine .inr ⟨rfl, natByte payload.length, rfl, by omega, ?_⟩
    simp [HostCommand.frameBytes, HostCommand.arguments, hbyte]
    omega
  | _ => exact .inl rfl

section
variable {frame : List Byte}

/-- At its end a frame that fits expects exactly its check byte. -/
theorem FrameFits.expectedOf (h : FrameFits frame) : expectedOf frame = some (frame.length + 1) := by
  obtain ⟨code, hcode, hfixed | ⟨hlen, len, hfive, -, htotal⟩⟩ := h
  · simp [Machine.expectedOf, hcode, hfixed]
  · simp [Machine.expectedOf, hcode, hlen, hfive, htotal]

/-- Every byte of a frame that fits is acknowledged (R184). -/
theorem FrameFits.acceptsBytes (h : FrameFits frame) : AcceptsBytes [] frame := by
  intro pre b post hsplit
  rw [List.nil_append]
  have hlt : pre.length < frame.length := by simp [hsplit]
  have hb : frame[pre.length]? = some b := by simp [hsplit]
  have hpre (k : Nat) (hk : k < pre.length) : pre[k]? = frame[k]? := by
    rw [hsplit, List.getElem?_append_left hk]
  obtain ⟨code, hcode, hcase⟩ := h
  have hknown (h1 : pre.length = 1) : frameLength b ≠ none := by
    have hbc : b = code := by simpa [h1, hcode] using hb.symm
    subst hbc
    obtain hfixed | ⟨hlen, -⟩ := hcase
    · simp [hfixed]
    · simp [hlen]
  refine ⟨?_, hknown, fun h5 hsend => ?_⟩
  · obtain hle | hge := Nat.lt_or_ge pre.length 2
    · simp [expectedOf_of_length_le (show pre.length ≤ 1 by omega)]
    · rw [Machine.expectedOf, hpre 1 (by omega), hcode]
      obtain hfixed | ⟨hlen, len, hfive, -, htotal⟩ := hcase
      · simp only [hfixed, ne_eq, Option.some.injEq]
        omega
      · simp only [hlen]
        obtain h | h := Nat.lt_or_ge 5 pre.length
        · rw [hpre 5 h, hfive]
          simp only [Option.map_some, ne_eq, Option.some.injEq]
          omega
        · rw [List.getElem?_eq_none h]
          simp
  · rw [hpre 1 (by omega), hcode] at hsend
    have hc : code = 0x20 := Option.some.inj hsend
    subst hc
    obtain hfixed | ⟨-, len, hfive, hle, -⟩ := hcase
    · rw [show frameLength 0x20 = some .byLen by decide] at hfixed
      cases hfixed
    · have hbl : b = len := by simpa [h5, hfive] using hb.symm
      exact hbl ▸ hle

end

/-! ### A write is opened -/

section
variable {e : Engine}

/-- START and write address at an engine that sees them open a write (R183, R184). -/
theorem Engine.openWrite_of_sound (h : e.Sound) (h1 : e.state ≠ .executing) (h2 : e.state ≠ .stretched) :
    e.takeStart.takeAddress (writeAddress e.strap) = e.takeStart.inWrite [] := by
  have hstart := Engine.takeStart_of_sound h h1 h2
  have hstrap : e.takeStart.strap = e.strap := by rw [hstart]
  rw [← hstrap, Engine.takeAddress_write (by rw [hstart]) (by rw [hstart])]
  simp only [Engine.inWrite, hstart]
  rfl

end

/-- Settles O42: every byte of a frame that fits is acknowledged, and its end expects one byte more. -/
theorem everyFrameIsReceivedUpToItsCheckByte : Obligations.EveryFrameIsReceivedUpToItsCheckByte := by
  intro e seq cmd sound hidle hlen t
  have hfits := HostCommand.frameFits hlen seq
  have hstart := Engine.takeStart_of_sound sound (by simp [hidle]) (by simp [hidle])
  have ht : t = e.takeStart.inWrite (cmd.frameBytes seq) := by
    have hbytes := e.takeStart.inWrite_takeBytes hfits.acceptsBytes []
    rw [List.append_nil, List.nil_append, Engine.takeBytes_nil,
      ← Engine.openWrite_of_sound sound (by simp [hidle]) (by simp [hidle])] at hbytes
    exact hbytes
  have hframe : e.frame = [] := sound.frame_eq_nil (sound.addressed_eq_false (by simp [hidle]))
  rw [ht]
  refine ⟨rfl, rfl, hfits.expectedOf, ?_, ?_⟩
  · simp only [Engine.inWrite, hstart]
  · simp [Engine.inWrite, hstart, hframe]

/-! ### Bytes that are refused or let pass -/

section
variable {e : Engine}

theorem Engine.completes_of_not_receiving {b : Byte} (h : e.state ≠ .receiving) : e.completes b = false :=
  decide_eq_false fun hc => h hc.1

theorem Engine.takeByte_of_not_receiving {b : Byte} (h : e.state ≠ .receiving) : e.takeByte b = e.passByte := by
  rw [Engine.takeByte, if_neg fun hc => h hc.1, Engine.takeAddress, if_neg fun hc => h hc.1]

/-- Once a byte has passed, all further ones pass too and leave the engine as it is (R186, R191). -/
theorem Engine.takeBytes_of_passed (h : e.state ≠ .receiving) (hpass : e.passByte = e) (bytes : List Byte) :
    e.takeBytes bytes = e := by
  induction bytes with
  | nil => rfl
  | cons b bytes ih =>
    rw [Engine.takeBytes_step (Engine.completes_of_not_receiving h), Engine.takeByte_of_not_receiving h, hpass, ih]

/-- A refused byte leaves the engine in IGNORING, where whatever follows passes (R184, R185, R186). -/
theorem Engine.takeBytes_refuseByte (e : Engine) (bytes : List Byte) : e.refuseByte.takeBytes bytes = e.refuseByte :=
  Engine.takeBytes_of_passed (by simp [Engine.refuseByte]) rfl bytes

/-- Bytes that are acknowledged up to one that is refused: the frame is discarded (R184, R185). -/
theorem Engine.inWrite_takeBytes_refused (e : Engine) {frame good : List Byte} {b : Byte} (rest : List Byte)
    (hgood : AcceptsBytes frame good) (hcomplete : (e.inWrite (frame ++ good)).completes b = false)
    (hrefuse : (e.inWrite (frame ++ good)).takeByte b = (e.inWrite (frame ++ good)).refuseByte) :
    (e.inWrite frame).takeBytes (good ++ b :: rest) = (e.inWrite (frame ++ good)).refuseByte := by
  rw [e.inWrite_takeBytes hgood, Engine.takeBytes_step hcomplete, hrefuse, Engine.takeBytes_refuseByte]

end

/-- Only the engine of one port changes. -/
theorem unchangedBut_setEngine (s : State) (p : Port) (e : Engine) : UnchangedBut { engines := [p] } s (s.setEngine p e) := by
  constructor
  case engines =>
    intro q hq
    have hne : p ≠ q := by rintro rfl; simp at hq
    simp [hne]
  all_goals (intros; rfl)

/-- A frame that goes wrong behind some acknowledged bytes is discarded, whether it is written at once or in two parts (R184, R185,
R192). -/
theorem exec_linkRefusal_refused {s : State} {p : Port} {good : List Byte} {b : Byte} {rest : List Byte}
    (sound : (s.engine p).Sound) (h1 : (s.engine p).state ≠ .executing) (h2 : (s.engine p).state ≠ .stretched)
    (ha : (s.engine p).addressed = false) (hgood : AcceptsBytes [] good)
    (hcomplete : ∀ e : Engine, e.strap = (s.engine p).strap → (e.inWrite good).completes b = false)
    (hrefuse : ∀ e : Engine, (e.inWrite good).takeByte b = (e.inWrite good).refuseByte) :
    ∃ t, exec (.linkRefusal p (.opened (good ++ b :: rest))) s = .next t ∧
      (t.engine p).state = .ignoring ∧ (t.engine p).linkError = true ∧ (t.engine p).frame = [] ∧
      (t.engine p).expected = none ∧ (t.engine p).acked = false ∧ (t.engine p).memory = (s.engine p).memory ∧
      (t.engine p).resp = (s.engine p).resp ∧ UnchangedBut { engines := [p] } s t ∧
      (∀ first second, good ++ b :: rest = first ++ second → first.length ≤ good.length →
        ∃ u, exec (.linkRefusal p (.opened first)) s = .next u ∧ exec (.linkRefusal p (.opened second)) u = .next t) := by
  set e := (s.engine p).takeStart with he
  have hstart := Engine.takeStart_of_sound sound h1 h2
  have hstrap : e.strap = (s.engine p).strap := by rw [he, hstart]
  have hopen : (s.engine p).openWrite = e.inWrite [] := by
    rw [Engine.openWrite, if_neg (by simp [ha]), Engine.openWrite_of_sound sound h1 h2]
  have hexec (bytes : List Byte) : exec (.linkRefusal p (.opened bytes)) s =
      .next (s.setEngine p ((e.inWrite []).takeBytes bytes)) := by
    rw [← hopen]
    rfl
  refine ⟨s.setEngine p (e.inWrite good).refuseByte, ?_, ?_, ?_, ?_, ?_, ?_, ?_, ?_, unchangedBut_setEngine .., ?_⟩
  · rw [hexec, e.inWrite_takeBytes_refused rest hgood (hcomplete e hstrap) (hrefuse e)]
    rfl
  · simp [Engine.refuseByte]
  · simp [Engine.refuseByte]
  · simp [Engine.refuseByte]
  · simp [Engine.refuseByte]
  · simp [Engine.refuseByte]
  · simp [Engine.refuseByte, Engine.inWrite, he, hstart]
  · simp [Engine.refuseByte, Engine.inWrite, he, hstart]
  · intro first second hsplit hlen
    obtain ⟨good', rfl, rfl⟩ : ∃ good', good = first ++ good' ∧ second = good' ++ b :: rest := by
      obtain ⟨x, hx, hy⟩ | ⟨x, hx, hy⟩ := List.append_eq_append_iff.mp hsplit
      · have hnil : x = [] := by
          have hl := congrArg List.length hx
          rw [List.length_append] at hl
          exact List.length_eq_zero_iff.mp (by omega)
        subst hnil
        exact ⟨[], by simpa using hx.symm, by simpa using hy.symm⟩
      · exact ⟨x, hx, hy⟩
    have hfirst : AcceptsBytes [] first := fun pre c post hs => hgood pre c (post ++ good') (by simp [hs])
    have hsecond : AcceptsBytes first good' := fun pre c post hs => by
      simpa using hgood (first ++ pre) c post (by simp [hs])
    refine ⟨s.setEngine p (e.inWrite first), ?_, ?_⟩
    · have hb := e.inWrite_takeBytes hfirst []
      rw [List.append_nil, List.nil_append, Engine.takeBytes_nil] at hb
      rw [hexec, hb]
    · change Host.Outcome.next ((s.setEngine p (e.inWrite first)).setEngine p
        (((s.setEngine p (e.inWrite first)).engine p).openWrite.takeBytes (good' ++ b :: rest))) = _
      have hopened : (e.inWrite first).openWrite = e.inWrite first := if_pos ⟨rfl, rfl⟩
      rw [State.setEngine_setEngine, State.engine_setEngine, if_pos rfl, hopened,
        e.inWrite_takeBytes_refused rest hsecond (hcomplete e hstrap) (hrefuse e)]

/-- A value outside the code table has no frame length (R184). -/
theorem frameLength_eq_none {code : Byte}
    (h : code ∉ ([0x01, 0x02, 0x03, 0x10, 0x11, 0x12, 0x13, 0x14, 0x15, 0x20, 0x21, 0x22, 0x23, 0x28, 0x30, 0x31, 0x32, 0x33,
      0x34, 0x35, 0x36, 0x37, 0x38] : List Byte)) : frameLength code = none := by
  simp only [List.mem_cons, List.not_mem_nil, or_false, not_or] at h
  obtain ⟨h01, h02, h03, h10, h11, h12, h13, h14, h15, h20, h21, h22, h23, h28, h30, h31, h32, h33, h34, h35, h36, h37, h38⟩ := h
  rw [frameLength, if_neg, if_neg, if_neg, if_neg, if_neg, if_neg h20]
  all_goals simp only [List.mem_cons, List.not_mem_nil, or_false, not_or]
  · exact ⟨h02, h10, h31⟩
  · exact ⟨h30, h32⟩
  · exact ⟨h11, h13⟩
  · exact ⟨h12, h14, h33, h34, h35, h36, h38⟩
  · exact ⟨h01, h03, h15, h21, h22, h23, h28, h37⟩

/-- Settles O43: each of the three faults is a byte that is refused behind acknowledged ones. -/
theorem linkRefusesBadFrames : Obligations.LinkRefusesBadFrames := by
  intro s p seq sound e refused
  refine ⟨fun h1 h2 ha => ⟨fun code rest hcode => ?_, fun dest tag flags len rest hlen => ?_, fun cmd b rest hlen hb => ?_⟩,
    fun b rest => ⟨fun hs => ?_, fun hs => ?_⟩⟩
  · refine exec_linkRefusal_refused (good := [seq]) sound h1 h2 ha ?_ (fun e _ => e.inWrite_completes (by simp [expectedOf]))
      fun e => ?_
    · intro pre c post hsplit
      obtain ⟨rfl, -⟩ : pre = [] ∧ post = [] := by cases pre <;> simp_all
      exact ⟨by simp [expectedOf], by simp, by simp⟩
    · have hexp : (e.inWrite [seq]).expected ≠ some ((e.inWrite [seq]).frame.length + 1) := by
        simp [Engine.inWrite, expectedOf]
      rw [Engine.takeByte, if_pos ⟨rfl, rfl⟩, Engine.takeFrameByte, if_neg hexp,
        if_pos (show (e.inWrite [seq]).frame.length = 1 from rfl), frameLength_eq_none hcode]
  · have hsend : frameLength 0x20 = some .byLen := by decide
    have hexp (rest' : List Byte) (hr : rest'.length ≤ 3) : expectedOf (seq :: 0x20 :: rest') = none := by
      have hfive : (seq :: 0x20 :: rest')[5]? = none := List.getElem?_eq_none (by simp; omega)
      rw [expectedOf, hfive]
      rfl
    refine exec_linkRefusal_refused (good := [seq, 0x20, dest, tag, flags]) sound h1 h2 ha ?_
      (fun e _ => e.inWrite_completes (by rw [hexp _ (by simp)]; simp)) fun e => ?_
    · intro pre c post hsplit
      obtain _ | ⟨x0, _ | ⟨x1, _ | ⟨x2, _ | ⟨x3, _ | ⟨x4, _ | ⟨x5, pre⟩⟩⟩⟩⟩⟩ := pre <;>
        simp only [List.cons_append, List.nil_append, List.cons.injEq, List.nil_eq, reduceCtorEq, and_false] at hsplit
      · exact ⟨by simp [expectedOf], by simp, by simp⟩
      · obtain ⟨rfl, rfl, -⟩ := hsplit
        exact ⟨by simp [expectedOf], by simpa using Option.ne_none_iff_exists'.mpr ⟨_, hsend⟩, by simp⟩
      · obtain ⟨rfl, rfl, -⟩ := hsplit
        exact ⟨by rw [List.nil_append, hexp _ (by simp)]; simp, by simp, by simp⟩
      · obtain ⟨rfl, rfl, -⟩ := hsplit
        exact ⟨by rw [List.nil_append, hexp _ (by simp)]; simp, by simp, by simp⟩
      · obtain ⟨rfl, rfl, -⟩ := hsplit
        exact ⟨by rw [List.nil_append, hexp _ (by simp)]; simp, by simp, by simp⟩
    · have hnone : (e.inWrite [seq, 0x20, dest, tag, flags]).expected = none := hexp [dest, tag, flags] (by simp)
      rw [Engine.takeByte, if_pos ⟨rfl, rfl⟩, Engine.takeFrameByte, hnone, if_neg (by simp), if_neg (by simp [Engine.inWrite]),
        if_pos (show (e.inWrite [seq, 0x20, dest, tag, flags]).frame.length = 5 ∧
          (e.inWrite [seq, 0x20, dest, tag, flags]).frame[1]? = some 0x20 from ⟨rfl, rfl⟩), if_neg (show ¬ len.toNat ≤ Config.maxPayload from not_le.mpr hlen)]
  · have hfits := HostCommand.frameFits hlen seq
    refine exec_linkRefusal_refused (good := cmd.frameBytes seq) sound h1 h2 ha hfits.acceptsBytes (fun e he => ?_) fun e => ?_
    · refine decide_eq_false fun hc => hb ?_
      rw [← show e.strap = (s.engine p).strap from he]
      exact hc.2.2.2
    · rw [Engine.takeByte, if_pos ⟨rfl, rfl⟩, Engine.takeFrameByte]
      exact if_pos hfits.expectedOf
  · have hnot : e.state ≠ .receiving := by simp [hs]
    have hpass : e.passByte = { e with acked := false } := by simp [Engine.passByte, hs]
    change Host.Outcome.next (s.setEngine p (e.takeBytes (b :: rest))) = _
    rw [Engine.takeBytes_step (Engine.completes_of_not_receiving hnot), Engine.takeByte_of_not_receiving hnot, hpass,
      Engine.takeBytes_of_passed (by exact hnot) (by simp [Engine.passByte, hs])]
  · have hnot : e.state ≠ .receiving := by simp [hs]
    have hpass : e.passByte = { e with acked := false, busTimer := some 35 } := by
      simp [Engine.passByte, hs, Config.busTimeout]
    change Host.Outcome.next (s.setEngine p (e.takeBytes (b :: rest))) = _
    rw [Engine.takeBytes_step (Engine.completes_of_not_receiving hnot), Engine.takeByte_of_not_receiving hnot, hpass,
      Engine.takeBytes_of_passed (by exact hnot) (by simp [Engine.passByte, hs, Config.busTimeout])]

/-! ### Reads -/

/-- The bytes that a host reads from a place of a record on: those of the record, then 0xFF (R189). -/
def readBytes (record : List Byte) (i n : Nat) : List Byte := ((record ++ List.replicate (i + n) 0xFF).drop i).take n

theorem readBytes_getElem? (record : List Byte) (i n k : Nat) :
    (readBytes record i n)[k]? = if k < n then some (record.getD (i + k) 0xFF) else none := by
  unfold readBytes
  rw [List.getElem?_take]
  split
  · next hk =>
    rw [List.getElem?_drop, List.getD_eq_getElem?_getD]
    obtain h | h := Nat.lt_or_ge (i + k) record.length
    · rw [List.getElem?_append_left h, List.getElem?_eq_getElem h]
      rfl
    · rw [List.getElem?_append_right h, List.getElem?_replicate_of_lt (by omega), List.getElem?_eq_none h]
      rfl
  · rfl

/-- The first byte read is the one at the place, and the rest is read from the next place. -/
theorem readBytes_succ (record : List Byte) (i n : Nat) :
    readBytes record i (n + 1) = record.getD i 0xFF :: readBytes record (i + 1) n := by
  refine List.ext_getElem? fun k => ?_
  cases k with
  | zero => simp [readBytes_getElem?]
  | succ k =>
    rw [List.getElem?_cons_succ, readBytes_getElem?, readBytes_getElem?, show i + 1 + k = i + (k + 1) by omega]
    exact if_congr Nat.succ_lt_succ_iff rfl rfl

section
variable {e : Engine}

/-- A read in progress sends on from its snapshot (R189). -/
theorem Engine.sendBytes_of_snapshot {r : Record} {i : Nat} (h : e.snapshot = some (r, i)) (n : Nat) :
    e.sendBytes (n + 1) =
      { e with
        snapshot := some (r, i + (n + 1)), sent := e.sent ++ readBytes (r.bytes e.strap) i (n + 1)
        busTimer := some Config.busTimeout } := by
  induction n generalizing e i with
  | zero =>
    rw [readBytes_succ]
    simp [Engine.sendBytes, Engine.sendByte, h, Record.byteAt, readBytes]
  | succ n ih =>
    have hnext : e.sendByte = { e with
        snapshot := some (r, i + 1), sent := e.sent ++ [r.byteAt e.strap i], busTimer := some Config.busTimeout } := by
      simp [Engine.sendByte, h]
    rw [Engine.sendBytes, hnext, ih rfl, readBytes_succ _ i (n + 1)]
    simp [Record.byteAt, Nat.add_assoc, Nat.add_comm 1]

/-- Outside a read the host reads 0xFF for each byte (R191). -/
theorem Engine.sendBytes_of_no_read (h : e.snapshot = none) (hs : e.state = .idle ∨ e.state = .ignoring) (n : Nat) :
    e.sendBytes (n + 1) =
      { e with
        sent := e.sent ++ List.replicate (n + 1) 0xFF
        busTimer := if e.state = .ignoring then some Config.busTimeout else e.busTimer } := by
  induction n generalizing e with
  | zero => obtain hs | hs := hs <;> simp [Engine.sendBytes, Engine.sendByte, h, hs]
  | succ n ih =>
    have hnext : e.sendByte = { e with
        sent := e.sent ++ [0xFF], busTimer := if e.state = .ignoring then some Config.busTimeout else e.busTimer } := by
      obtain hs | hs := hs <;> simp [Engine.sendByte, h, hs]
    rw [Engine.sendBytes, hnext, ih (by exact h) (by exact hs)]
    rw [List.replicate_succ (n := n + 1)]
    obtain hs | hs := hs <;> simp [hs]

/-- START and read address at an engine that sees them begin a read (R181, R189). -/
theorem Engine.openRead_of_sound (h : e.Sound) (h1 : e.state ≠ .executing) (h2 : e.state ≠ .stretched)
    (h3 : e.state ≠ .sending) :
    e.openRead =
      { e with
        state := .sending, addressed := false, frame := [], expected := none
        linkError := e.linkError || decide (e.frame ≠ []), snapshot := some (e.resp, 0), sent := [], acked := true
        busTimer := some Config.busTimeout } := by
  rw [Engine.openRead, if_neg h3, Engine.takeStart_of_sound h h1 h2, Engine.takeAddress, if_pos ⟨rfl, rfl⟩,
    if_neg (readAddress_ne_writeAddress e.strap), if_pos rfl]

end

/-- A check register that meets its own value becomes 0 (R163). -/
theorem crcStep_self (r : Byte) : crcStep r r = 0 := by
  rw [crcStep, BitVec.xor_self]
  decide

/-- Settles O44: a read is its opening, its bytes and its end. -/
theorem readSendsARecordThatChecks : Obligations.ReadSendsARecordThatChecks := by
  refine ⟨fun s p n nack hn sound => ?_, fun strap r => ?_⟩
  · intro e
    obtain ⟨n, rfl⟩ : ∃ k, n = k + 1 := ⟨n - 1, by omega⟩
    have hopened (h1 : e.state ≠ .executing) (h2 : e.state ≠ .stretched) :
        exec (.readTransaction p (.opened (n + 1)) nack) s = .next (s.setEngine p
          (if nack = true then (e.openRead.sendBytes (n + 1)).endRead else e.openRead.sendBytes (n + 1))) :=
      if_neg (by simp [show (s.engine p).holdsScl = false from Engine.holdsScl_eq_false h1 h2])
    have hresumed (h1 : e.state ≠ .executing) (h2 : e.state ≠ .stretched) :
        exec (.readTransaction p (.resumed (n + 1)) nack) s = .next (s.setEngine p
          (if nack = true then (e.sendBytes (n + 1)).endRead else e.sendBytes (n + 1))) :=
      if_neg (by simp [show (s.engine p).holdsScl = false from Engine.holdsScl_eq_false h1 h2])
    change e.Sound at sound
    clear_value e
    refine ⟨fun hs => ?_, fun r i count hsnap hcount => ?_, fun hs => ?_, fun hs => ?_⟩
    · have h1 : e.state ≠ .executing := by obtain h | h | h := hs <;> simp [h]
      have h2 : e.state ≠ .stretched := by obtain h | h | h := hs <;> simp [h]
      have h3 : e.state ≠ .sending := by obtain h | h | h := hs <;> simp [h]
      rw [hopened h1 h2, Engine.openRead_of_sound sound h1 h2 h3, Engine.sendBytes_of_snapshot rfl]
      cases nack <;> simp [Engine.endRead, readBytes, Config.busTimeout]
    · obtain ⟨-, -, -, hsending, -⟩ := sound
      have hs : e.state = .sending := hsending.mp (by simp [hsnap])
      have hopen : e.openRead = e := if_pos hs
      rw [hopen] at hopened
      have hread : exec (.readTransaction p count nack) s = .next (s.setEngine p
          (if nack = true then (e.sendBytes (n + 1)).endRead else e.sendBytes (n + 1))) := by
        obtain rfl | rfl := hcount
        · exact hopened (by simp [hs]) (by simp [hs])
        · exact hresumed (by simp [hs]) (by simp [hs])
      rw [hread, Engine.sendBytes_of_snapshot hsnap]
      cases nack <;> simp [Engine.endRead, readBytes, Config.busTimeout, hs]
    · rw [hresumed (by simp [hs]) (by simp [hs]), Engine.sendBytes_of_no_read (sound.snapshot_eq_none (by simp [hs])) (.inl hs)]
      cases nack <;> simp [Engine.endRead, hs]
    · rw [hresumed (by simp [hs]) (by simp [hs]), Engine.sendBytes_of_no_read (sound.snapshot_eq_none (by simp [hs])) (.inr hs)]
      cases nack <;> simp [Engine.endRead, hs, Config.busTimeout]
  · simp only [crc8, Record.bytes, List.foldl_cons, List.foldl_append, List.foldl_nil]
    exact crcStep_self _

/-! ### The bus timeout -/

/-- Settles O45: the timeout at each state of the engine. -/
theorem busTimeoutAbandonsTheTransaction : Obligations.BusTimeoutAbandonsTheTransaction := by
  intro s p sound e idle
  have hexec (ht : e.busTimer ≠ none) : exec (.busTimeout p) s = .next (s.setEngine p e.takeTimeout) :=
    if_pos (Option.isSome_iff_ne_none.mpr ht)
  have hstopped (ht : e.busTimer = none) : exec (.busTimeout p) s = .next s := if_neg (by
    rw [show (s.engine p).busTimer = none from ht]
    simp)
  have hself : s.setEngine p e = s := State.setEngine_self ..
  change e.Sound at sound
  clear_value e
  refine ⟨fun ht hs => ?_, fun ht hs => ?_, fun h => ?_⟩
  · rw [hexec ht]
    obtain hs | hs := hs
    · simp [Engine.takeTimeout, hs, idle, sound.snapshot_eq_none (by simp [hs])]
    · have ha := sound.addressed_eq_false (by simp [hs])
      simp [Engine.takeTimeout, hs, idle, ha, sound.frame_eq_nil ha, sound.expected_eq_none ha]
  · rw [hexec ht]
    have ha := sound.addressed_eq_false (by simp [hs])
    simp [Engine.takeTimeout, hs, idle, ha, sound.snapshot_eq_none (by simp [hs]), sound.frame_eq_nil ha,
      sound.expected_eq_none ha]
  · by_cases ht : e.busTimer = none
    · exact hstopped ht
    · have hkeep : e.takeTimeout = e := by
        obtain h | h | h | h := h
        · exact absurd h ht
        all_goals simp [Engine.takeTimeout, h]
      rw [hexec ht, hkeep, hself]

end Sys2Proof.Machine
end

section
/-! The third stage of RESTART: the engines are released one after the other, and the held frames executed (R158, R160). -/

namespace Sys2Proof.Machine

/-! ### What the release of one engine comes to -/

/-- The engine after it has released its clock line, with no stage put off (R186, R191). -/
def Engine.freed (e : Engine) : Engine := { e with state := .ignoring, wait := .nothing, busTimer := some 35 }

/-- The engine after the held frame has been executed with this answer (R165, R170). -/
def Engine.executed (e : Engine) (cmd : HostCommand) (st : Status) (data : List Byte) : Engine :=
  { e.freed with memory := some (e.execSeq, cmd.code), resp := { status := st, echo := e.execSeq, data := data } }

/-- The engine has something to do at the third stage: a held frame, or a clock line to release (R158, R160). -/
def Engine.AwaitsRelease (e : Engine) : Prop :=
  e.state = .executing ∧ (e.wait = .restartEnd ∨ ∃ cmd, e.wait = .heldFrame cmd)

theorem Engine.freed_not_awaits (e : Engine) : ¬ e.freed.AwaitsRelease := by rintro ⟨h, -⟩; cases h

theorem Engine.leaveExecuting_eq_freed {e : Engine} (h : e.stageDeferred = false) : e.leaveExecuting = e.freed := by
  simp [Engine.leaveExecuting, Engine.freed, h, Config.busTimeout]

/-- What the release of port `p` makes of its engine and its session, in a state with its session CLOSED. -/
inductive HeldOutcome (v : State) (p : Port) : Engine → Session → Prop
  | kept : ¬ (v.engine p).AwaitsRelease → HeldOutcome v p (v.engine p) (v.session p)
  | overtaken : (v.engine p).state = .executing → (v.engine p).wait = .restartEnd →
      HeldOutcome v p (v.engine p).freed (v.session p)
  | noSession {cmd} : (v.engine p).state = .executing → (v.engine p).wait = .heldFrame cmd →
      cmd.passesSession .closed = false → HeldOutcome v p ((v.engine p).executed cmd .noSession []) (v.session p)
  | range {cmd} : (v.engine p).state = .executing → (v.engine p).wait = .heldFrame cmd →
      cmd.passesSession .closed = true → cmd.inRange p = false →
      HeldOutcome v p ((v.engine p).executed cmd .range []) (v.session p)
  | close : (v.engine p).state = .executing → (v.engine p).wait = .heldFrame .close →
      HeldOutcome v p ((v.engine p).executed .close .ok []) (v.session p)
  | status : (v.engine p).state = .executing → (v.engine p).wait = .heldFrame .status →
      HeldOutcome v p { (v.engine p).executed .status .ok (v.statusData p) with linkError := false } (v.session p)
  | query (l : LockId) : (v.engine p).state = .executing → (v.engine p).wait = .heldFrame (.query (argByte l)) →
      HeldOutcome v p ((v.engine p).executed (.query (argByte l)) .ok (v.lock l).queryData) (v.session p)
  | queryRoute (g : GroupId) : (v.engine p).state = .executing → (v.engine p).wait = .heldFrame (.queryRoute (argByte g)) →
      HeldOutcome v p ((v.engine p).executed (.queryRoute (argByte g)) .ok (v.group g).queryData) (v.session p)
  | opened (lease : Word16) (prio : Prio) (threshold : Byte) (enable : Bool) : 100 ≤ lease.toNat → lease.toNat ≤ 60000 →
      threshold.toNat ≤ 32 → (v.engine p).state = .executing →
      (v.engine p).wait = .heldFrame (.openSession lease (argByte prio) threshold (boolByte enable)) →
      HeldOutcome v p
        ((v.engine p).executed (.openSession lease (argByte prio) threshold (boolByte enable)) .ok
          [nextEpoch (v.session p).epoch, natByte (min prio (v.session p).cap).val, (v.session p).endReason.code])
        ((v.session p).opening lease prio threshold enable)

section
variable {u v : State} {p : Port} {e : Engine} {x : Session}

/-- A released engine is not released again. -/
theorem HeldOutcome.not_awaits (h : HeldOutcome v p e x) : ¬ e.AwaitsRelease := by
  cases h with
  | kept h => exact h
  | _ => exact Engine.freed_not_awaits (v.engine p)

/-- What a release makes of a port hangs on the port's own engine and session and on what no release changes. -/
theorem HeldOutcome.transfer (h : HeldOutcome v p e x)
    (hframe : u = { v with engines := u.engines, sessions := u.sessions, sessionPosts := u.sessionPosts })
    (hengine : u.engine p = v.engine p) (hsession : u.session p = v.session p) : HeldOutcome u p e x := by
  have hstatus : u.statusData p = v.statusData p := by
    simp only [State.statusData, hengine, hsession]
    rw [hframe]
    rfl
  have hlock (l : LockId) : u.lock l = v.lock l := by rw [hframe]; rfl
  have hgroup (g : GroupId) : u.group g = v.group g := by rw [hframe]; rfl
  cases h with
  | kept h => rw [← hengine, ← hsession]; exact .kept (by rwa [hengine])
  | overtaken hs hw => rw [← hengine, ← hsession]; exact .overtaken (by rwa [hengine]) (by rwa [hengine])
  | noSession hs hw hpass =>
    rw [← hengine, ← hsession]
    exact .noSession (by rwa [hengine]) (by rwa [hengine]) hpass
  | range hs hw hpass hrange =>
    rw [← hengine, ← hsession]
    exact .range (by rwa [hengine]) (by rwa [hengine]) hpass hrange
  | close hs hw => rw [← hengine, ← hsession]; exact .close (by rwa [hengine]) (by rwa [hengine])
  | status hs hw =>
    rw [← hengine, ← hsession, ← hstatus]
    exact .status (by rwa [hengine]) (by rwa [hengine])
  | query l hs hw =>
    rw [← hengine, ← hsession, ← hlock]
    exact .query l (by rwa [hengine]) (by rwa [hengine])
  | queryRoute g hs hw =>
    rw [← hengine, ← hsession, ← hgroup]
    exact .queryRoute g (by rwa [hengine]) (by rwa [hengine])
  | opened lease prio threshold enable h1 h2 h3 hs hw =>
    rw [← hengine, ← hsession]
    exact .opened lease prio threshold enable h1 h2 h3 (by rwa [hengine]) (by rwa [hengine])

/-- The commands that need no session, with their arguments in range. -/
theorem HostCommand.cases_of_passes_closed {cmd : HostCommand} (hpass : cmd.passesSession .closed = true)
    (hrange : cmd.inRange p = true) :
    cmd = .close ∨ cmd = .status ∨ (∃ l : LockId, cmd = .query (argByte l)) ∨ (∃ g : GroupId, cmd = .queryRoute (argByte g)) ∨
      ∃ lease prio threshold enable, cmd = .openSession lease (argByte (prio : Prio)) threshold (boolByte enable) ∧
        100 ≤ lease.toNat ∧ lease.toNat ≤ 60000 ∧ threshold.toNat ≤ 32 := by
  have harg {n : Nat} {b : Byte} (h : b.toNat < n) : b = argByte (⟨b.toNat, h⟩ : Fin n) := by simp [argByte, natByte]
  cases cmd with
  | close => exact .inl rfl
  | status => exact .inr (.inl rfl)
  | query b =>
    have h : b.toNat < 32 := Nat.lt_succ_of_le (by simpa [HostCommand.inRange] using hrange)
    exact .inr (.inr (.inl ⟨⟨_, h⟩, congrArg _ (harg h)⟩))
  | queryRoute b =>
    have h : b.toNat < 4 := Nat.lt_succ_of_le (by simpa [HostCommand.inRange] using hrange)
    exact .inr (.inr (.inr (.inl ⟨⟨_, h⟩, congrArg _ (harg h)⟩)))
  | openSession lease priority threshold flags =>
    simp only [HostCommand.inRange, decide_eq_true_eq] at hrange
    obtain ⟨h1, h2, hp, ht, hf⟩ := hrange
    have hflags : flags = boolByte (decide (flags.toNat = 1)) := by
      obtain h | h : flags.toNat = 0 ∨ flags.toNat = 1 := by omega
      · rw [h]; exact BitVec.eq_of_toNat_eq h
      · rw [h]; exact BitVec.eq_of_toNat_eq h
    exact .inr (.inr (.inr (.inr ⟨lease, ⟨priority.toNat, by omega⟩, threshold, _, by rw [← harg, ← hflags], h1, h2, ht⟩)))
  | _ => simp [HostCommand.passesSession] at hpass

/-- Every port has an outcome. -/
theorem exists_heldOutcome (v : State) (p : Port) : ∃ e x, HeldOutcome v p e x := by
  by_cases ha : (v.engine p).AwaitsRelease
  · obtain ⟨hs, hw | ⟨cmd, hw⟩⟩ := ha
    · exact ⟨_, _, .overtaken hs hw⟩
    · cases hpass : cmd.passesSession .closed with
      | false => exact ⟨_, _, .noSession hs hw hpass⟩
      | true =>
        cases hrange : cmd.inRange p with
        | false => exact ⟨_, _, .range hs hw hpass hrange⟩
        | true =>
          obtain rfl | rfl | ⟨l, rfl⟩ | ⟨g, rfl⟩ | ⟨lease, prio, threshold, enable, rfl, h1, h2, h3⟩ :=
            HostCommand.cases_of_passes_closed hpass hrange
          · exact ⟨_, _, .close hs hw⟩
          · exact ⟨_, _, .status hs hw⟩
          · exact ⟨_, _, .query l hs hw⟩
          · exact ⟨_, _, .queryRoute g hs hw⟩
          · exact ⟨_, _, .opened lease prio threshold enable h1 h2 h3 hs hw⟩
  · exact ⟨_, _, .kept ha⟩

/-! ### The release of one engine -/

/-- Posts to peers and an engine do not meet. -/
theorem State.tellPeers_setEngine (n : Notice) (k : Option Port) (qs : List Port) :
    (u.setEngine p e).tellPeers n k qs = (u.tellPeers n k qs).setEngine p e := by
  induction qs generalizing u with
  | nil => rfl
  | cons q qs ih =>
    rw [State.tellPeers, State.tellPeers, show (u.setEngine p e).present q = u.present q from rfl]
    cases u.present q
    · exact ih
    · exact ih (u := u.postFromSessions q n k)

/-- The state as the command of a held frame finds it: the frame is in EXECUTING and remembered (R165). -/
def State.atHeldFrame (u : State) (p : Port) (cmd : HostCommand) : State := (u.waitFor p .nothing).remember p cmd

theorem State.releaseEngine_of_not_awaits (h : ¬ (u.engine p).AwaitsRelease) : u.releaseEngine p = u := by
  unfold State.releaseEngine
  split
  · next cmd hs hw => exact absurd ⟨hs, .inr ⟨cmd, hw⟩⟩ h
  · next hs hw => exact absurd ⟨hs, .inl hw⟩ h
  · rfl

theorem State.releaseEngine_overtaken (hs : (u.engine p).state = .executing) (hw : (u.engine p).wait = .restartEnd) :
    u.releaseEngine p = u.setEngine p (u.engine p).leaveExecuting := by
  unfold State.releaseEngine
  rw [hs, hw]

theorem State.releaseEngine_held {cmd : HostCommand} (hs : (u.engine p).state = .executing)
    (hw : (u.engine p).wait = .heldFrame cmd) :
    u.releaseEngine p = repeatStep p cmd (carryOut p cmd) (u.waitFor p .nothing) := by
  unfold State.releaseEngine
  rw [hs, hw]

/-- With an empty memory a held frame is no repeat (R166). -/
theorem State.releaseEngine_fresh {cmd : HostCommand} (hs : (u.engine p).state = .executing)
    (hw : (u.engine p).wait = .heldFrame cmd) (hmem : (u.engine p).memory = none) :
    u.releaseEngine p = sessionAndAuthority p cmd (carryOut p cmd) (u.atHeldFrame p cmd) := by
  have hmem' : ((u.waitFor p .nothing).engine p).memory = none := by simp [State.waitFor, hmem]
  rw [State.releaseEngine_held hs hw, repeatStep, hmem']
  rfl

theorem State.session_atHeldFrame (cmd : HostCommand) (q : Port) : (u.atHeldFrame p cmd).session q = u.session q := rfl

/-- The response of a held frame. -/
theorem State.atHeldFrame_respond {cmd : HostCommand} (h : (u.engine p).stageDeferred = false) (st : Status)
    (data : List Byte) :
    (u.atHeldFrame p cmd).respond p st data = u.setEngine p ((u.engine p).executed cmd st data) := by
  simp [State.atHeldFrame, State.waitFor, State.remember, State.respond, Engine.respond, Engine.executed, Engine.freed,
    Engine.leaveExecuting, h, Config.busTimeout]

/-- Of the commands that need no session none is a configuration command (R148, R174). -/
theorem HostCommand.not_configuration_of_passes {cmd : HostCommand} (h : cmd.passesSession .closed = true) :
    cmd.isConfiguration = false := by
  cases cmd <;> simp_all [HostCommand.passesSession, HostCommand.isConfiguration]

/-- The release of one engine, by its outcome: an OPEN tells the peers that are OPEN already (R87, R88). -/
theorem HeldOutcome.releaseEngine (h : HeldOutcome u p e x) (hclosed : (u.session p).state = .closed)
    (hdeferred : (u.engine p).stageDeferred = false)
    (hmem : ∀ cmd, (u.engine p).wait = .heldFrame cmd → (u.engine p).memory = none) :
    u.releaseEngine p =
      ((u.setSession p x).tellPeers (.peerOpened p x.epoch) none (if x.state = .opened then otherPorts p else [])).setEngine p
        e := by
  have hsame : ((u.setSession p (u.session p)).tellPeers (.peerOpened p (u.session p).epoch) none
      (if (u.session p).state = .opened then otherPorts p else [])) = u := by
    rw [State.setSession_self, if_neg (by simp [hclosed])]
    rfl
  have hfresh {cmd : HostCommand} (hs : (u.engine p).state = .executing) (hw : (u.engine p).wait = .heldFrame cmd)
      (hpass : cmd.passesSession .closed = true) : u.releaseEngine p = carryOut p cmd (u.atHeldFrame p cmd) := by
    rw [State.releaseEngine_fresh hs hw (hmem cmd hw), sessionAndAuthority, State.session_atHeldFrame, hclosed, hpass,
      if_neg (by simp), if_neg (by simp [HostCommand.not_configuration_of_passes hpass])]
  cases h with
  | kept h => rw [hsame, State.releaseEngine_of_not_awaits h, State.setEngine_self]
  | overtaken hs hw => rw [hsame, State.releaseEngine_overtaken hs hw, Engine.leaveExecuting_eq_freed hdeferred]
  | noSession hs hw hpass =>
    rw [hsame, State.releaseEngine_fresh hs hw (hmem _ hw), sessionAndAuthority, State.session_atHeldFrame, hclosed,
      if_pos hpass]
    exact State.atHeldFrame_respond hdeferred _ _
  | range hs hw hpass hrange =>
    rw [hsame, hfresh hs hw hpass, carryOut_range hrange]
    exact State.atHeldFrame_respond hdeferred _ _
  | close hs hw =>
    rw [hsame, hfresh hs hw (by rfl), carryOut, carryClose, State.session_atHeldFrame, if_neg (by simp [hclosed])]
    exact State.atHeldFrame_respond hdeferred _ _
  | status hs hw =>
    rw [hsame, hfresh hs hw (by rfl)]
    simp [carryOut, carryStatus, State.atHeldFrame, State.waitFor, State.remember, State.respond, Engine.respond,
      Engine.executed, Engine.freed, Engine.leaveExecuting, hdeferred, Config.busTimeout, State.statusData]
    rfl
  | query l hs hw =>
    rw [hsame, hfresh hs hw (by rfl), carryOut, carryQuery, lockArg_argByte]
    exact State.atHeldFrame_respond hdeferred _ _
  | queryRoute g hs hw =>
    rw [hsame, hfresh hs hw (by rfl), carryOut, carryQueryRoute, groupArg_argByte]
    exact State.atHeldFrame_respond hdeferred _ _
  | opened lease prio threshold enable h1 h2 h3 hs hw =>
    rw [hfresh hs hw (by rfl), carryOut, carryOpen_eq h1 h2 h3, State.session_atHeldFrame, if_neg (by simp [hclosed]),
      if_pos (by rfl), ← State.tellPeers_setEngine]
    set n : Notice := .peerOpened p (nextEpoch (u.session p).epoch)
    set w := u.setSession p ((u.session p).opening lease prio threshold enable)
    have hw : (u.atHeldFrame p (.openSession lease (argByte prio) threshold (boolByte enable))).setSession p
        ((u.session p).opening lease prio threshold enable) =
        w.atHeldFrame p (.openSession lease (argByte prio) threshold (boolByte enable)) := rfl
    have hheld (v : State) (cmd : HostCommand) : (v.atHeldFrame p cmd).tellPeers n none (otherPorts p) =
        (v.tellPeers n none (otherPorts p)).atHeldFrame p cmd := by
      rw [State.atHeldFrame, State.remember, State.waitFor, State.tellPeers_setEngine, State.tellPeers_setEngine]
      simp [State.atHeldFrame, State.remember, State.waitFor, State.engine_tellPeers]
    rw [hw, hheld, State.atHeldFrame_respond (by rw [State.engine_tellPeers]; exact hdeferred), State.engine_tellPeers,
      State.tellPeers_setEngine]
    rfl

end

/-! ### The releases one after the other -/

/-- The state `u` after the ports of `done` have been released from `v`, each with its engine `E` and its session `X`. -/
structure ReleasedSoFar (v : State) (E : Port → Engine) (X : Port → Session) (done : List Port) (u : State) : Prop where
  engine : ∀ p, u.engine p = if p ∈ done then E p else v.engine p
  session : ∀ p, u.session p = if p ∈ done then X p else v.session p
  frame : u = { v with engines := u.engines, sessions := u.sessions, sessionPosts := u.sessionPosts }
  posts : ∃ new, u.sessionPosts = v.sessionPosts ++ new ∧
    (∀ p q, p ∈ done → (X p).state = .opened → (X q).state = .opened → done.idxOf q < done.idxOf p →
      new.count { port := q, notice := .peerOpened p (X p).epoch, cause := none } = 1) ∧
    ∀ y ∈ new, ∃ p ∈ done, (X p).state = .opened ∧ (X y.port).state = .opened ∧ done.idxOf y.port < done.idxOf p ∧
      y = { port := y.port, notice := .peerOpened p (X p).epoch, cause := none }

section
variable {u v : State} {E : Port → Engine} {X : Port → Session} {done : List Port} {p : Port}

theorem State.frame_trans {w : State}
    (hu : u = { v with engines := u.engines, sessions := u.sessions, sessionPosts := u.sessionPosts })
    (hw : w = { u with engines := w.engines, sessions := w.sessions, sessionPosts := w.sessionPosts }) :
    w = { v with engines := w.engines, sessions := w.sessions, sessionPosts := w.sessionPosts } :=
  hw.trans (by rw [hu])

theorem ReleasedSoFar.init (v : State) (E : Port → Engine) (X : Port → Session) : ReleasedSoFar v E X [] v :=
  ⟨by simp, by simp, rfl, [], by simp⟩

/-- A port released before is left as it is. -/
theorem ReleasedSoFar.again (h : ReleasedSoFar v E X done u) (hE : ∀ p, HeldOutcome v p (E p) (X p)) (hp : p ∈ done) :
    ReleasedSoFar v E X (done ++ [p]) (u.releaseEngine p) := by
  have hquiet : ¬ (u.engine p).AwaitsRelease := by
    rw [h.engine, if_pos hp]
    exact (hE p).not_awaits
  have hmem (q : Port) : q ∈ done ++ [p] ↔ q ∈ done := by
    rw [List.mem_append, List.mem_singleton]
    exact or_iff_left_of_imp fun hq => hq ▸ hp
  have hidx (q r : Port) (hr : r ∈ done) : (done ++ [p]).idxOf q < (done ++ [p]).idxOf r ↔ done.idxOf q < done.idxOf r := by
    rw [List.idxOf_append_of_mem hr]
    by_cases hq : q ∈ done
    · rw [List.idxOf_append_of_mem hq]
    · have hle : done.length ≤ (done ++ [p]).idxOf q := by
        rw [List.idxOf_append_of_notMem hq]
        omega
      have hlt := List.idxOf_lt_length_iff.mpr hr
      rw [List.idxOf_of_notMem hq]
      omega
  rw [State.releaseEngine_of_not_awaits hquiet]
  obtain ⟨new, hposts, hcount, hfrom⟩ := h.posts
  refine ⟨fun q => ?_, fun q => ?_, h.frame, new, hposts, fun r q hr hro hqo hlt => ?_, fun y hy => ?_⟩
  · rw [h.engine]
    exact if_congr (hmem q).symm rfl rfl
  · rw [h.session]
    exact if_congr (hmem q).symm rfl rfl
  · rw [hmem] at hr
    exact hcount r q hr hro hqo ((hidx q r hr).mp hlt)
  · obtain ⟨r, hr, hro, hyo, hlt, heq⟩ := hfrom y hy
    exact ⟨r, (hmem r).mpr hr, hro, hyo, (hidx _ r hr).mpr hlt, heq⟩

/-- The next port is released, and a session that it opens is told to those opened before. -/
theorem ReleasedSoFar.next (h : ReleasedSoFar v E X done u) (hE : ∀ p, HeldOutcome v p (E p) (X p))
    (hclosed : ∀ p, (v.session p).state = .closed) (hdeferred : ∀ p, (v.engine p).stageDeferred = false)
    (hmem : ∀ p cmd, (v.engine p).wait = .heldFrame cmd → (v.engine p).memory = none) (hp : p ∉ done) :
    ReleasedSoFar v E X (done ++ [p]) (u.releaseEngine p) := by
  have hengine : u.engine p = v.engine p := by rw [h.engine, if_neg hp]
  have hsession : u.session p = v.session p := by rw [h.session, if_neg hp]
  have hrelease := ((hE p).transfer h.frame hengine hsession).releaseEngine (by rw [hsession, hclosed])
    (by rw [hengine, hdeferred]) (by rw [hengine]; exact hmem p)
  set told := (u.setSession p (X p)).tellPeers (.peerOpened p (X p).epoch) none
    (if (X p).state = .opened then otherPorts p else []) with htold
  have hnew : told.sessionPosts = u.sessionPosts ++
      ((if (X p).state = .opened then otherPorts p else []).filter (u.setSession p (X p)).present).map
        fun q => { port := q, notice := .peerOpened p (X p).epoch, cause := none } :=
    State.tellPeers_sessionPosts ..
  set added := (if (X p).state = .opened then otherPorts p else []).filter (u.setSession p (X p)).present with hadded
  have hmemAdded (q : Port) : q ∈ added ↔ (X p).state = .opened ∧ q ∈ done ∧ (X q).state = .opened := by
    rw [hadded, List.mem_filter, State.present_iff]
    by_cases hq : q = p
    · subst hq
      split <;> simp [hp, mem_otherPorts]
    · rw [State.session_setSession, if_neg (Ne.symm hq), h.session]
      by_cases hqd : q ∈ done <;> split <;> simp_all [mem_otherPorts]
  have hnodup : added.Nodup := by
    refine List.Nodup.filter _ ?_
    split
    · exact (List.nodup_finRange 4).filter _
    · exact List.nodup_nil
  have hmemDone (q : Port) : q ∈ done ++ [p] ↔ q ∈ done ∨ q = p := by simp
  have hidx (q : Port) (hq : q ∈ done) : (done ++ [p]).idxOf q = done.idxOf q := List.idxOf_append_of_mem hq
  have hidxp : (done ++ [p]).idxOf p = done.length := by
    rw [List.idxOf_append_of_notMem hp]
    simp
  have hlt (q : Port) : (done ++ [p]).idxOf q < done.length ↔ q ∈ done := by
    by_cases hq : q ∈ done
    · simp [hidx q hq, hq, List.idxOf_lt_length_iff]
    · simp only [hq, iff_false, not_lt]
      rw [List.idxOf_append_of_notMem hq]
      omega
  obtain ⟨new, hposts, hcount, hfrom⟩ := h.posts
  rw [hrelease]
  refine ⟨fun q => ?_, fun q => ?_, ?_, new ++ added.map fun q => { port := q, notice := .peerOpened p (X p).epoch, cause := none },
    ?_, fun r q hr hro hqo hlt' => ?_, fun y hy => ?_⟩
  · rw [State.engine_setEngine, htold, State.engine_tellPeers, State.engine_setSession, h.engine]
    by_cases hq : p = q <;> simp [hq, eq_comm]
  · rw [State.session_setEngine, htold, State.session_tellPeers, State.session_setSession, h.session]
    by_cases hq : p = q <;> simp [hq, eq_comm]
  · refine State.frame_trans h.frame ?_
    rw [htold, State.tellPeers_frame]
    rfl
  · rw [State.sessionPosts_setEngine, hnew, hposts, List.append_assoc]
  · rw [List.count_append]
    obtain hr | rfl := (hmemDone r).mp hr
    · have hne : r ≠ p := fun h => hp (h ▸ hr)
      have hq : q ∈ done := (hlt q).mp (lt_trans hlt' ((hlt r).mpr hr))
      rw [hidx q hq, hidx r hr] at hlt'
      rw [hcount r q hr hro hqo hlt', List.count_eq_zero.mpr]
      simp [Ne.symm hne]
    · rw [hidxp] at hlt'
      have hq : q ∈ added := (hmemAdded q).mpr ⟨hro, (hlt q).mp hlt', hqo⟩
      have hinj : Function.Injective fun q : Port =>
          ({ port := q, notice := .peerOpened r (X r).epoch, cause := none } : Post) := fun a b hab => congrArg Post.port hab
      rw [List.count_eq_zero.mpr, List.count_map_of_injective added _ hinj q |>.trans (List.count_eq_one_of_mem hnodup hq)]
      intro hin
      obtain ⟨r', hr', -, -, -, heq⟩ := hfrom _ hin
      simp only [Post.mk.injEq, Notice.peerOpened.injEq, true_and, and_true] at heq
      exact hp (heq.1 ▸ hr')
  · obtain hy | hy := List.mem_append.mp hy
    · obtain ⟨r, hr, hro, hyo, hlt', heq⟩ := hfrom y hy
      have hyd : y.port ∈ done := List.idxOf_lt_length_iff.mp (lt_trans hlt' (List.idxOf_lt_length_iff.mpr hr))
      exact ⟨r, (hmemDone r).mpr (.inl hr), hro, hyo, by rwa [hidx _ hyd, hidx r hr], heq⟩
    · obtain ⟨q, hq, rfl⟩ := List.mem_map.mp hy
      obtain ⟨hpo, hqd, hqo⟩ := (hmemAdded q).mp hq
      exact ⟨p, (hmemDone p).mpr (.inr rfl), hpo, hqo, by rw [hidxp]; exact (hlt q).mpr hqd, rfl⟩

/-- All releases of a list of ports. -/
theorem ReleasedSoFar.all (h : ReleasedSoFar v E X done u) (hE : ∀ p, HeldOutcome v p (E p) (X p))
    (hclosed : ∀ p, (v.session p).state = .closed) (hdeferred : ∀ p, (v.engine p).stageDeferred = false)
    (hmem : ∀ p cmd, (v.engine p).wait = .heldFrame cmd → (v.engine p).memory = none) (ps : List Port) :
    ReleasedSoFar v E X (done ++ ps) (u.releaseEngines ps) := by
  induction ps generalizing done u with
  | nil => simpa [State.releaseEngines] using h
  | cons p ps ih =>
    rw [State.releaseEngines, List.append_cons]
    by_cases hp : p ∈ done
    · exact ih (h.again hE hp)
    · exact ih (h.next hE hclosed hdeferred hmem hp)

end

/-! ### The third stage -/

/-- The state in which the engines are released: the RESTART has ended, and its requester has its OK (R105, R160). -/
def State.atRelease (s : State) (requester : Port) : State :=
  ({ s.endTeardowns with restart := none } : State).answerRestart requester

section
variable {s : State} {r : Restart}

theorem State.atRelease_eq (hs : (s.engine r.requester).state = .executing) (hw : (s.engine r.requester).wait = .restartStages)
    (hdeferred : (s.engine r.requester).stageDeferred = false) :
    s.atRelease r.requester =
      ({ s.endTeardowns with restart := none } : State).setEngine r.requester
        { (s.engine r.requester).freed with resp := { status := .ok, echo := (s.engine r.requester).execSeq, data := [] } } := by
  have hs' : (({ s.endTeardowns with restart := none } : State).engine r.requester).state = .executing := hs
  have hw' : (({ s.endTeardowns with restart := none } : State).engine r.requester).wait = .restartStages := hw
  unfold State.atRelease State.answerRestart
  rw [hs', hw']
  have hd' : (({ (({ s.endTeardowns with restart := none } : State).engine r.requester) with
      resp := { status := .ok, echo := (s.engine r.requester).execSeq, data := [] } } : Engine).stageDeferred) = false :=
    hdeferred
  exact congrArg (({ s.endTeardowns with restart := none } : State).setEngine r.requester) (Engine.leaveExecuting_eq_freed hd')

theorem State.session_endTeardowns (p : Port) : s.endTeardowns.session p = { s.session p with teardown := none } := by
  simp [State.endTeardowns, State.session]

/-- The third stage in one piece: every engine and session is left by its outcome, and the posts tell the sessions opened (R160). -/
theorem exec_restartThirdStage (order : List Port) (hr : s.restart = some r) (h1 : r.sessionTaken = true) (h2 : r.lockTaken = true)
    (h3 : r.messageTaken = true) (h4 : r.noticeTaken = true) (sound : s.RestartSound)
    (hdeferred : ∀ p, (s.engine p).stageDeferred = false)
    (hmem : ∀ p cmd, (s.engine p).wait = .heldFrame cmd → (s.engine p).memory = none) :
    ∃ t, exec (.restartThirdStage order) s = .next t ∧
      ∀ E X, (∀ p, HeldOutcome (s.atRelease r.requester) p (E p) (X p)) →
        ReleasedSoFar (s.atRelease r.requester) E X (order ++ allPorts) t := by
  obtain ⟨hs, hw, hclosed⟩ := sound r hr
  refine ⟨(s.atRelease r.requester).releaseEngines (releaseOrder order), ?_, fun E X hE => ?_⟩
  · change execRestartThirdStage order s = _
    rw [execRestartThirdStage, hr]
    exact if_pos (by simp [Restart.complete, h1, h2, h3, h4])
  · have hat := State.atRelease_eq hs hw (hdeferred _)
    refine List.nil_append (order ++ allPorts) ▸ (ReleasedSoFar.init _ E X).all hE (fun p => ?_) (fun p => ?_) (fun p cmd => ?_) _
    · rw [hat, State.session_setEngine]
      exact (congrArg Session.state (State.session_endTeardowns p)).trans (hclosed h1 p)
    · rw [hat, State.engine_setEngine]
      split
      · exact hdeferred _
      · exact hdeferred p
    · rw [hat, State.engine_setEngine]
      split
      · nofun
      · exact hmem p cmd

/-- The record in which a port's engine and session stand when the engines are released. -/
theorem State.engine_atRelease (hs : (s.engine r.requester).state = .executing)
    (hw : (s.engine r.requester).wait = .restartStages) (hdeferred : (s.engine r.requester).stageDeferred = false) {p : Port}
    (hp : p ≠ r.requester) : (s.atRelease r.requester).engine p = s.engine p := by
  rw [State.atRelease_eq hs hw hdeferred, State.engine_setEngine, if_neg hp.symm]
  rfl

theorem State.session_atRelease (hs : (s.engine r.requester).state = .executing)
    (hw : (s.engine r.requester).wait = .restartStages) (hdeferred : (s.engine r.requester).stageDeferred = false) (p : Port) :
    (s.atRelease r.requester).session p = { s.session p with teardown := none } := by
  rw [State.atRelease_eq hs hw hdeferred]
  exact State.session_endTeardowns p

end

/-- Some outcomes, one for every port, with the given one at this port. -/
theorem HeldOutcome.extend {v : State} {p : Port} {e : Engine} {x : Session} (h : HeldOutcome v p e x) :
    ∃ (E : Port → Engine) (X : Port → Session), (∀ q, HeldOutcome v q (E q) (X q)) ∧ E p = e ∧ X p = x := by
  choose E X hEX using exists_heldOutcome v
  refine ⟨Function.update E p e, Function.update X p x, fun q => ?_, by simp, by simp⟩
  by_cases hq : q = p
  · subst hq
    simpa using h
  · simpa [hq] using hEX q

/-- A session that an outcome changes is that of a held OPEN. -/
theorem HeldOutcome.session_eq {v : State} {p : Port} {e : Engine} {x : Session} (h : HeldOutcome v p e x)
    (hopen : ∀ lease prio threshold flags, (v.engine p).wait ≠ .heldFrame (.openSession lease prio threshold flags)) :
    x = v.session p := by
  cases h with
  | opened lease prio threshold enable _ _ _ _ hw => exact absurd hw (hopen _ _ _ _)
  | _ => rfl

/-- Settles O38: the outcomes of the ports that the statement names. -/
theorem restartThirdStageReleasesTheEngines : Obligations.RestartThirdStageReleasesTheEngines := by
  intro s r order hr h1 h2 h3 h4 sound hdeferred hmem
  obtain ⟨hs, hw, -⟩ := sound r hr
  obtain ⟨t, hexec, hall⟩ := exec_restartThirdStage order hr h1 h2 h3 h4 sound hdeferred hmem
  set v := s.atRelease r.requester with hv
  have hlast (p : Port) : p ∈ order ++ allPorts := by simp [allPorts]
  have hengine {p : Port} {e : Engine} {x : Session} (h : HeldOutcome v p e x) : t.engine p = e := by
    obtain ⟨E, X, hEX, rfl, -⟩ := h.extend
    rw [(hall E X hEX).engine, if_pos (hlast p)]
  have hsession {p : Port} {e : Engine} {x : Session} (h : HeldOutcome v p e x) : t.session p = x := by
    obtain ⟨E, X, hEX, -, rfl⟩ := h.extend
    rw [(hall E X hEX).session, if_pos (hlast p)]
  have hvengine {p : Port} (hp : p ≠ r.requester) : v.engine p = s.engine p :=
    State.engine_atRelease hs hw (hdeferred _) hp
  have hvsession (p : Port) : v.session p = { s.session p with teardown := none } :=
    State.session_atRelease hs hw (hdeferred _) p
  have hvrequester : v.engine r.requester =
      { (s.engine r.requester).freed with resp := { status := .ok, echo := (s.engine r.requester).execSeq, data := [] } } := by
    rw [hv, State.atRelease_eq hs hw (hdeferred _), State.engine_setEngine, if_pos rfl]
  have hnot {p : Port} {w : ExecWait} (hp : (s.engine p).wait = w) (hne : w ≠ .restartStages) : p ≠ r.requester := by
    rintro rfl
    exact hne (hp.symm.trans hw)
  obtain ⟨E, X, hEX⟩ : ∃ (E : Port → Engine) (X : Port → Session), ∀ q, HeldOutcome v q (E q) (X q) := by
    obtain ⟨e, x, h⟩ := exists_heldOutcome v 0
    obtain ⟨E, X, hEX, -⟩ := h.extend
    exact ⟨E, X, hEX⟩
  have hframe := (hall E X hEX).frame
  have hvframe : v = { s with engines := v.engines, sessions := v.sessions, restart := none } := by
    rw [hv, State.atRelease_eq hs hw (hdeferred _)]
    rfl
  refine ⟨t, hexec, ?_, ?_, fun p hp hs hw => ?_, fun p cmd hs hw hpass => ?_, fun p hp hne => ?_, fun p hopen => ?_, ?_⟩
  · rw [hframe, hvframe]
  · have hquiet : ¬ (v.engine r.requester).AwaitsRelease := by
      rw [hvrequester]
      exact (s.engine r.requester).freed_not_awaits
    exact (hengine (.kept hquiet)).trans hvrequester
  · rw [hengine (.overtaken (by rwa [hvengine hp]) (by rwa [hvengine hp])), hvengine hp]
    rfl
  · have hp := hnot hw (by nofun)
    rw [hengine (.noSession (by rwa [hvengine hp]) (by rwa [hvengine hp]) hpass), hvengine hp]
    rfl
  · rw [hengine (.kept fun ha => hne (by rw [← hvengine hp]; exact ha.1)), hvengine hp]
  · refine (hsession (hEX p)).trans (((hEX p).session_eq fun lease prio threshold flags => ?_).trans (hvsession p))
    by_cases hp : p = r.requester
    · subst hp
      rw [hvrequester]
      nofun
    · rw [hvengine hp]
      exact hopen lease prio threshold flags
  · constructor
    case engines => simp [allPorts]
    case sessions => simp [allPorts]
    case sessionPosts => simp
    case restart => simp
    case msPhase | sclSample | pending => rw [hframe, hvframe]
    all_goals (rw [hframe, hvframe]; intros; rfl)

/-- Settles O39: the outcome of each held frame that needs no session, and the posts of the sessions opened. -/
theorem heldFramesAreExecutedAtTheThirdStage : Obligations.HeldFramesAreExecutedAtTheThirdStage := by
  intro s r order hr h1 h2 h3 h4 sound hdeferred hmem
  obtain ⟨hs, hw, -⟩ := sound r hr
  obtain ⟨t, hexec, hall⟩ := exec_restartThirdStage order hr h1 h2 h3 h4 sound hdeferred hmem
  set v := s.atRelease r.requester with hv
  have hlast (p : Port) : p ∈ order ++ allPorts := by simp [allPorts]
  have hout {p : Port} {e : Engine} {x : Session} (h : HeldOutcome v p e x) : t.engine p = e ∧ t.session p = x := by
    obtain ⟨E, X, hEX, rfl, rfl⟩ := h.extend
    rw [(hall E X hEX).engine, (hall E X hEX).session, if_pos (hlast p), if_pos (hlast p)]
    exact ⟨rfl, rfl⟩
  have hvengine {p : Port} (hp : p ≠ r.requester) : v.engine p = s.engine p :=
    State.engine_atRelease hs hw (hdeferred _) hp
  have hvsession (p : Port) : v.session p = { s.session p with teardown := none } :=
    State.session_atRelease hs hw (hdeferred _) p
  have hnot {p : Port} {w : ExecWait} (hp : (s.engine p).wait = w) (hne : w ≠ .restartStages) : p ≠ r.requester := by
    rintro rfl
    exact hne (hp.symm.trans hw)
  have hvframe : v = { s with engines := v.engines, sessions := v.sessions, restart := none } := by
    rw [hv, State.atRelease_eq hs hw (hdeferred _)]
    rfl
  obtain ⟨E, X, hEX⟩ : ∃ (E : Port → Engine) (X : Port → Session), ∀ q, HeldOutcome v q (E q) (X q) := by
    obtain ⟨e, x, h⟩ := exists_heldOutcome v 0
    obtain ⟨E, X, hEX, -⟩ := h.extend
    exact ⟨E, X, hEX⟩
  have hsession (p : Port) : t.session p = X p := (hout (hEX p)).2
  obtain ⟨new, hposts, hcount, hfrom⟩ := (hall E X hEX).posts
  refine ⟨t, new, hexec, ?_, fun p hs' => ?_, fun p q hp hq hlt => ?_, fun y hy => ?_⟩
  · rw [hposts, hvframe]
  · intro x executed
    refine ⟨fun hw' => ?_, fun hw' => ?_, fun l hw' => ?_, fun g hw' => ?_, fun cmd hw' hpass hrange => ?_,
      fun lease prio threshold enable hl1 hl2 ht hw' => ?_⟩
    all_goals
      have hp := hnot hw' (by nofun)
      have hpe := hvengine hp
      rw [← hpe] at hs' hw'
    · rw [(hout (.close hs' hw')).1, hpe]
      rfl
    · have hauth : v.hasAuthority = s.hasAuthority := by rw [hvframe]; rfl
      refine ⟨portByte v.authorityHolder, fun h => ?_, fun q hsole hq => ?_, ?_⟩
      · exact portByte_authorityHolder_of_none (hauth ▸ h)
      · exact portByte_authorityHolder_of_some (by rw [hvframe]; exact hsole) (hauth ▸ hq)
      · have hdata : v.statusData p = [0, x.endReason.code, x.epoch, natByte x.prio.val] ++ wordBytes x.lease ++
            [natByte (s.noticeQueue p).records.length, natByte (s.inbound p).queue.length,
              natByte (allCells.countP fun c => (s.cell c).isNone), portByte v.authorityHolder,
              boolByte (s.noticeQueue p).lost + 2 * boolByte (s.engine p).linkError,
              (s.engine p).strap.setWidth 8] := by
          have hclosed : (s.session p).state.code = 0 := by rw [(sound r hr).2.2 h1 p]; rfl
          have hnotices : v.noticeQueue p = s.noticeQueue p := by rw [hvframe]; rfl
          have hinbound : v.inbound p = s.inbound p := by rw [hvframe]; rfl
          have hfree : v.poolFree = allCells.countP fun c => (s.cell c).isNone := by rw [hvframe]; rfl
          rw [State.statusData, hvsession, hnotices, hinbound, hfree, statusFlags_eq, hpe, ← hclosed]
        rw [(hout (.status hs' hw')).1, hdata, hpe]
        rfl
    · rw [(hout (.query l hs' hw')).1, hpe, hvframe]
      rfl
    · rw [(hout (.queryRoute g hs' hw')).1, hpe, hvframe]
      rfl
    · have h := hout (.range hs' hw' hpass hrange)
      rw [h.1, h.2, hpe, hvsession]
      exact ⟨rfl, rfl⟩
    · intro y
      have h := hout (.opened lease prio threshold enable hl1 hl2 ht hs' hw')
      have hy : (v.session p).opening lease prio threshold enable = y := by
        rw [hvsession]
        simp only [Session.opening, min_def]
        rfl
      have hprio : min prio (v.session p).cap = y.prio := by rw [← hy]; rfl
      have hepoch : nextEpoch (v.session p).epoch = y.epoch := by rw [← hy]; rfl
      rw [h.1, h.2, hpe, hy, hprio, hepoch, hvsession]
      exact ⟨rfl, rfl⟩
  · rw [hsession] at hp hq ⊢
    exact hcount p q (hlast p) hp hq hlt
  · obtain ⟨p, -, hp, hq, hlt, heq⟩ := hfrom y hy
    exact ⟨p, by rwa [hsession], by rwa [hsession], hlt, by rwa [hsession]⟩

end Sys2Proof.Machine
end

section
/-! The state after RESET meets every invariant, and what the part does on its own (log 2). -/

namespace Sys2Proof.Machine

/-! ### The state after RESET -/

/-- Every record is as RESET leaves it, whatever the straps, the host's queue and the counter of samples (R193). -/
structure State.Fresh (u : State) : Prop where
  engine : ∀ p, ∃ strap, u.engine p = { Engine.reset with strap := strap }
  session : ∀ p, u.session p = Session.reset
  lock : ∀ l, u.lock l = LockRec.reset l
  group : ∀ g, u.group g = Group.reset
  cell : ∀ c, u.cell c = none
  inbound : ∀ p, u.inbound p = Inbound.reset
  notices : ∀ p, u.noticeQueue p = NoticeQueue.reset
  limit : ∀ p, u.limit p = PortLimits.reset
  lockPosts : u.lockPosts = []
  messagePosts : u.messagePosts = []
  restart : u.restart = none

theorem State.fresh_reset : State.reset.Fresh where
  engine p := ⟨0, by simp [State.engine, State.reset, Engine.reset]⟩
  session := State.session_reset
  lock := State.lock_reset
  group := State.group_reset
  cell c := by simp [State.cell, State.reset]
  inbound p := by simp [State.inbound, State.reset]
  notices := State.noticeQueue_reset
  limit p := by simp [State.limit, State.reset]
  lockPosts := rfl
  messagePosts := rfl
  restart := rfl

/-- The RESET input leaves a fresh state (R193). -/
theorem fresh_of_exec_reset {as1 as0 : Bool} {s t : State} (h : exec (.reset as1 as0) s = .next t) : t.Fresh := by
  rw [exec_reset_eq] at h
  obtain rfl := Host.Outcome.next.inj h
  exact {
    engine := fun p => ⟨strapValue as1 as0, by simp [State.engine]⟩
    session := State.session_reset
    lock := State.lock_reset
    group := State.group_reset
    cell := State.fresh_reset.cell
    inbound := State.fresh_reset.inbound
    notices := State.noticeQueue_reset
    limit := State.fresh_reset.limit
    lockPosts := rfl
    messagePosts := rfl
    restart := rfl }

section
variable {u : State}

theorem LockRec.sound_reset (l : LockId) : (LockRec.reset l).Sound l where
  holders := by simp [LockRec.HoldersFit, LockRec.reset]
  queue := by simp [LockRec.QueueFits, LockRec.reset]
  places := by simp [LockRec.PlacesFit, LockRec.reset]
  attributes := by simp [LockRec.AttributesFit, LockRec.reset]

theorem State.Fresh.locksSound (h : u.Fresh) : u.LocksSound := fun l => h.lock l ▸ LockRec.sound_reset l

theorem State.Fresh.enginesSound (h : u.Fresh) : u.EnginesSound := fun p => by
  obtain ⟨strap, he⟩ := h.engine p
  rw [he]
  simp [Engine.Sound, Engine.reset]

theorem State.Fresh.stretchesSound (h : u.Fresh) : u.StretchesSound := fun p => by
  obtain ⟨strap, he⟩ := h.engine p
  have hblocks (l : LockId) : (u.lock l).blocks p = false := by simp [h.lock, LockRec.reset, LockRec.blocks]
  simp [hblocks, he, Engine.reset]

theorem State.Fresh.groupsSound (h : u.Fresh) : u.GroupsSound := fun g => by
  rw [h.group]
  simp [Group.Sound, Group.LinesFit, Group.reset]

theorem State.Fresh.bindingsAgree (h : u.Fresh) : u.BindingsAgree := fun g l => by
  simp [h.group, h.lock, Group.reset, LockRec.reset]

theorem State.Fresh.poolSound (h : u.Fresh) : u.PoolSound := by
  refine ⟨fun c => ?_, fun p => ?_⟩
  · simp [State.CellFits, h.cell, State.namings, h.inbound, Inbound.reset]
  · obtain ⟨strap, he⟩ := h.engine p
    simp [State.QueuesFit, h.inbound, h.notices, h.limit, he, Inbound.reset, NoticeQueue.reset, PortLimits.reset, Engine.reset,
      ExecWait.inRange, Config.defaultQuota, Config.defaultSendCap, Config.defaultStretch, limitsInRange]

theorem State.Fresh.sessionsSound (h : u.Fresh) : u.SessionsSound := fun p => by
  rw [h.session]
  simp [Session.Sound, Session.reset]

theorem State.Fresh.guardedPostsFit (h : u.Fresh) : u.GuardedPostsFit := by
  simp [State.GuardedPostsFit, h.lockPosts, h.messagePosts]

theorem State.Fresh.restartSound (h : u.Fresh) : u.RestartSound := by simp [State.RestartSound, h.restart]

theorem State.Fresh.leasesOutlastStretches (h : u.Fresh) : u.LeasesOutlastStretches := fun p hs => by
  obtain ⟨strap, he⟩ := h.engine p
  rw [he] at hs
  cases hs

end

/-- Settles O60: the state after RESET is fresh, and a fresh state meets each invariant. -/
theorem resetStateMeetsEveryInvariant : Obligations.ResetStateMeetsEveryInvariant :=
  have h := State.fresh_reset
  ⟨h.locksSound, h.enginesSound, h.stretchesSound, h.groupsSound, h.bindingsAgree, h.poolSound, h.sessionsSound, h.restartSound,
    h.leasesOutlastStretches, h.guardedPostsFit⟩

/-! ### What the part can take on its own -/

section
variable {s : State} {c : Instr}

theorem mem_map_filter {α : Type} {xs : List α} (hall : ∀ x, x ∈ xs) (f : α → Instr) (b : α → Bool) :
    c ∈ (xs.filter b).map f ↔ ∃ x, c = f x ∧ b x = true := by
  simp only [List.mem_map, List.mem_filter, hall, true_and]
  exact exists_congr fun x => ⟨fun ⟨hb, hc⟩ => ⟨hc.symm, hb⟩, fun ⟨hc, hb⟩ => ⟨hb, hc.symm⟩⟩

theorem State.mem_engineClaims (p : Port) :
    c ∈ s.engineClaims p ↔
      c = .stretchEnding p ∧ (s.engine p).state = .stretched ∧ (s.engine p).handed ≠ none ∨
        c = .limitClaim p ∧ (s.engine p).limitClaim ≠ none := by
  simp [State.engineClaims, Option.isSome_iff_ne_none, and_comm]

theorem State.mem_groupClaims (g : GroupId) :
    c ∈ s.groupClaims g ↔
      (c = .breakOrder g ∧ (s.group g).orders.head? = some .breakRoute ∨
        c = .makeOrder g ∧ ∃ p, (s.group g).orders.head? = some (.makeRoute p)) ∨
      c = .routeClear g ∧ (s.group g).reports.head? = some .clear ∨
        c = .routeMade g ∧ (∃ p, (s.group g).reports.head? = some (.made p)) ∨
        c = .routeFault g ∧ (s.group g).reports.head? = some .fault := by
  unfold State.groupClaims
  rw [List.mem_append]
  refine or_congr ?_ ?_
  · obtain _ | ⟨o, orders⟩ := (s.group g).orders
    · simp
    · cases o <;> simp
  · obtain _ | ⟨r, reports⟩ := (s.group g).reports
    · simp
    · cases r <;> simp

theorem State.mem_postClaims :
    c ∈ s.postClaims ↔
      (c = .noticePost .lockTable ∧ s.lockPosts ≠ [] ∨ c = .noticePost .sessionBlock ∧ s.sessionPosts ≠ []) ∨
        c = .noticePost .messageBlock ∧ s.messagePosts ≠ [] := by
  have hone (posts : List Post) (i : Instr) : c ∈ (if posts.isEmpty = true then [] else [i]) ↔ c = i ∧ posts ≠ [] := by
    cases posts <;> simp
  simp only [State.postClaims, List.mem_append, hone]

theorem State.mem_limitClaims (p : Port) :
    c ∈ s.limitClaims p ↔
      ∃ block, c = .newPortLimitsTaken p block ∧ (s.engine p).state = .executing ∧
        ∃ h, (s.engine p).wait = .portLimits h ∧ h.takenBy block = false := by
  unfold State.limitClaims
  split
  · next h hs hw =>
    have hall (b : LimitBlock) : b ∈ [LimitBlock.session, .message, .engine] := by cases b <;> simp
    simp only [mem_map_filter hall, true_and, hs, hw, ExecWait.portLimits.injEq, exists_eq_left', Bool.not_eq_true']
  · next hno =>
    simp only [List.not_mem_nil, false_iff]
    rintro ⟨b, -, hs, h, hw, -⟩
    exact hno h hs hw

theorem State.mem_teardownClaims (p : Port) :
    c ∈ s.teardownClaims p ↔ ∃ t, s.teardownStep p = some t ∧
      ((∃ l, c = .teardownHoldings p l ∧ t.step = .holdings ∧ t.locks.getLsbD l.val = false) ∨
        (∃ l, c = .teardownWaits p l ∧ t.step = .waits ∧ t.locks.getLsbD l.val = false) ∨
        c = .teardownFlush p ∧ t.step = .flush ∧ t.taken = false ∨
        c = .teardownPeerEnded p ∧ t.step = .peerEnded ∧ t.taken = false ∨
        c = .teardownEnd p ∧ t.step = .finish ∧ t.taken = false) := by
  unfold State.teardownClaims
  cases ht : s.teardownStep p with
  | none => simp
  | some t =>
    have hlocks (l : LockId) : l ∈ allLocks := List.mem_finRange l
    cases hstep : t.step
    case holdings | waits => simp [mem_map_filter hlocks, State.lockStepDue, ht, hstep]
    case flush | peerEnded | finish => cases htaken : t.taken <;> simp [hstep, htaken]

theorem RestartBlock.mem_all (b : RestartBlock) : b ∈ [RestartBlock.session, .lockAndRoute, .message, .notice] := by
  cases b <;> simp

theorem Restart.complete_iff (r : Restart) : r.complete = true ↔ ∀ block, r.takenBy block = true := by
  refine ⟨fun h block => ?_, fun h => ?_⟩
  · simp only [Restart.complete, Bool.and_eq_true] at h
    obtain ⟨⟨⟨h1, h2⟩, h3⟩, h4⟩ := h
    cases block <;> assumption
  · simp [Restart.complete, show r.sessionTaken = true from h .session, show r.lockTaken = true from h .lockAndRoute,
      show r.messageTaken = true from h .message, show r.noticeTaken = true from h .notice]

theorem State.mem_restartClaims :
    c ∈ s.restartClaims ↔ ∃ r, s.restart = some r ∧
      (c = .restartThirdStage [] ∧ (∀ block, r.takenBy block = true) ∨
        ∃ block, c = .restartSecondStage block ∧ (∀ p, (s.engine p).stageDeferred = false) ∧ r.takenBy block = false) := by
  unfold State.restartClaims
  cases hr : s.restart with
  | none => simp
  | some r =>
    simp only [Option.some.injEq, exists_eq_left', ← Restart.complete_iff, ← State.firstStageTaken_iff]
    by_cases hc : r.complete = true
    · have hall := r.complete_iff.mp hc
      simp [hc, hall]
    · rw [if_neg hc]
      by_cases hf : s.firstStageTaken = true
      · simp [hc, hf, mem_map_filter RestartBlock.mem_all]
      · simp [hc, hf]

theorem State.mem_groupDue (g : GroupId) :
    c ∈ s.groupDue g ↔
      (c = .guardExpiry g ∧ (s.group g).state = .breaking ∧ (s.group g).timer = .guardTime 0 ∨
        c = .faultClearGuardExpiry g ∧ (s.group g).state = .fault ∧ (s.group g).clearing = true ∧
          (s.group g).timer = .guardTime 0 ∨
        c = .settleExpiry g ∧ (s.group g).state = .making ∧ (s.group g).timer = .settleTime 0 ∨
        c = .confirmExpiry g ∧ (s.group g).state = .making ∧ (s.group g).timer = .confirmTime 0) ∨
      c = .senseLoss g ∧ (s.group g).senseTimer = some 0 := by
  unfold State.groupDue
  rw [List.mem_append]
  refine or_congr ?_ ?_
  · split
    · next hs ht => simp [hs, ht]
    · next hs hc ht => simp [hs, hc, ht]
    · next hs ht => simp [hs, ht]
    · next hs ht => simp [hs, ht]
    · next h1 h2 h3 h4 =>
      simp only [List.not_mem_nil, false_iff, not_or, not_and]
      exact ⟨fun _ => h1, fun _ => h4, fun _ => h2, fun _ => h3⟩
  · split <;> simp_all

theorem State.mem_lockDue (l : LockId) :
    c ∈ s.lockDue l ↔
      (∃ p, c = .holdLimitExpiry l p ∧ ∃ h, (s.lock l).holderOf p = some h ∧ h.hold = some 0) ∨
        ∃ p, c = .deadlineExpiry l p ∧ ∃ w, (s.lock l).waiterOf p = some w ∧ w.deadline = some 0 := by
  unfold State.lockDue
  rw [List.mem_append]
  refine or_congr ?_ ?_
  · rw [mem_map_filter (xs := allPorts) List.mem_finRange]
    refine exists_congr fun p => ?_
    cases (s.lock l).holderOf p <;> simp
  · rw [mem_map_filter (xs := allPorts) List.mem_finRange]
    refine exists_congr fun p => ?_
    cases (s.lock l).waiterOf p <;> simp

theorem State.mem_portDue (p : Port) :
    c ∈ s.portDue p ↔
      (c = .leaseExpiry p ∧ (s.session p).state = .opened ∧ (s.session p).lease = 0 ∨
        c = .stretchLimitExpiry p ∧ (s.engine p).state = .stretched ∧ (s.engine p).stretchTimer = some 0) ∨
      c = .busTimeout p ∧
        ((s.engine p).state = .receiving ∨ (s.engine p).state = .sending ∨ (s.engine p).state = .ignoring) ∧
        (s.engine p).busTimer = some 0 := by
  unfold State.portDue
  rw [List.mem_append, List.mem_append]
  refine or_congr (or_congr ?_ ?_) ?_
  · split <;> simp_all
  · split <;> simp_all
  · split
    · next hs ht => simp [hs, ht]
    · next hs ht => simp [hs, ht]
    · next hs ht => simp [hs, ht]
    · next h1 h2 h3 =>
      simp only [List.not_mem_nil, false_iff, not_and]
      rintro - (hs | hs | hs) ht
      · exact h1 hs ht
      · exact h2 hs ht
      · exact h3 hs ht

/-- The claims of the part are those that are due. -/
theorem State.mem_ownClaims : c ∈ s.ownClaims ↔ s.Due c := by
  simp only [State.ownClaims, List.mem_append, List.mem_flatMap, State.mem_engineClaims, State.mem_groupClaims,
    State.mem_postClaims, State.mem_limitClaims, State.mem_teardownClaims, State.mem_restartClaims, State.mem_groupDue,
    State.mem_lockDue, State.mem_portDue, allPorts, allGroups, allLocks, List.mem_finRange, true_and]
  cases c
  case noticePost source => cases source <;> simp [State.Due]
  case restartSecondStage block =>
    have hswap : (∃ r, s.restart = some r ∧ (∀ p, (s.engine p).stageDeferred = false) ∧ r.takenBy block = false) ↔
        (∀ p, (s.engine p).stageDeferred = false) ∧ ∃ r, s.restart = some r ∧ r.takenBy block = false :=
      ⟨fun ⟨r, hr, hp, hb⟩ => ⟨hp, r, hr, hb⟩, fun ⟨hp, r, hr, hb⟩ => ⟨r, hr, hp, hb⟩⟩
    simpa [State.Due] using hswap
  case restartThirdStage order => simp [State.Due, and_left_comm]
  all_goals simp [State.Due]

end

/-! ### A tick -/

section
variable (s : State)

theorem step_of_claim {s : State} (h : s.pending = []) {c : Instr} {cs : List Instr} (hc : s.ownClaims = c :: cs) :
    step s = exec c s := by
  rw [step, h]
  simp only [idleStep, hc]

theorem step_of_no_claim {s : State} (h : s.pending = []) (hc : s.ownClaims = []) : step s = .next s.tick := by
  rw [step, h]
  simp only [idleStep, hc]

/-- 10 µs pass, without a millisecond (log 35). -/
theorem State.tick_of_lt {s : State} (h : s.msPhase < 99) :
    s.tick = { s with groups := Vector.ofFn fun g => (s.group g).tickUnit, msPhase := s.msPhase + 1 } :=
  if_neg (by simp only [Config.unitsPerMs]; omega)

/-- 10 µs pass, the last of a millisecond (log 35). -/
theorem State.tick_of_le {s : State} (h : 99 ≤ s.msPhase) :
    s.tick =
      { s with
        engines := Vector.ofFn fun p => (s.engine p).tickMs (Config.hostScl s.sclSample p)
        sessions := Vector.ofFn fun p => (s.session p).tickMs
        locks := Vector.ofFn fun l => (s.lock l).tickMs
        groups := Vector.ofFn fun g => (s.group g).tickUnit.tickMs
        msPhase := 0
        sclSample := s.sclSample + 1 } := by
  refine (if_pos (by simp only [Config.unitsPerMs]; omega)).trans ?_
  simp [State.tickMs, State.group, State.engine, State.session, State.lock]

/-- The timers of a group after 10 µs (R59, R60). -/
theorem State.group_tick (g : GroupId) :
    s.tick.group g = if s.msPhase < 99 then (s.group g).tickUnit else (s.group g).tickUnit.tickMs := by
  split
  · next h => rw [State.tick_of_lt h]; simp [State.group]
  · next h => rw [State.tick_of_le (by omega)]; simp [State.group]

theorem State.session_tick (p : Port) : s.tick.session p = if s.msPhase < 99 then s.session p else (s.session p).tickMs := by
  split
  · next h => rw [State.tick_of_lt h]; rfl
  · next h => rw [State.tick_of_le (by omega)]; simp [State.session]

theorem State.lock_tick (l : LockId) : s.tick.lock l = if s.msPhase < 99 then s.lock l else (s.lock l).tickMs := by
  split
  · next h => rw [State.tick_of_lt h]; rfl
  · next h => rw [State.tick_of_le (by omega)]; simp [State.lock]

theorem State.engine_tick (p : Port) :
    s.tick.engine p = if s.msPhase < 99 then s.engine p else (s.engine p).tickMs (Config.hostScl s.sclSample p) := by
  split
  · next h => rw [State.tick_of_lt h]; rfl
  · next h => rw [State.tick_of_le (by omega)]; simp [State.engine]

/-- What time does not touch. -/
theorem State.tick_frame :
    s.tick = { s with
      engines := s.tick.engines, sessions := s.tick.sessions, locks := s.tick.locks, groups := s.tick.groups
      msPhase := s.tick.msPhase, sclSample := s.tick.sclSample } := by
  obtain h | h := Nat.lt_or_ge s.msPhase 99
  · rw [State.tick_of_lt h]
  · rw [State.tick_of_le h]

end

/-- Settles O2: the claims of the part are those that are due, and a tick counts every timer that runs. -/
theorem emptyQueueTakesAClaimOrLetsTimePass : Obligations.EmptyQueueTakesAClaimOrLetsTimePass := by
  refine ⟨fun s c => State.mem_ownClaims, fun s hpending => ⟨fun c cs => step_of_claim hpending, fun hidle => ?_⟩⟩
  refine ⟨s.tick, step_of_no_claim hpending hidle, fun g => ?_, fun hlt => ⟨?_, ?_⟩, fun hle => ?_⟩
  · rw [State.group_tick]
    cases ht : (s.group g).timer <;> split <;> simp [Group.tickUnit, Group.tickMs, ht]
  · rw [State.tick_of_lt hlt]
  · rw [State.tick_of_lt hlt]
    constructor
    case groups => simp [allGroups]
    all_goals (intros; rfl)
  · have hnot : ¬ s.msPhase < 99 := by omega
    refine ⟨by rw [State.tick_of_le hle], fun p hs => ?_, fun p hs => ?_, fun l => ?_, fun p => ?_, fun p => ⟨fun hs => ?_, fun hs => ?_⟩, ?_⟩
    · rw [State.session_tick, if_neg hnot, Session.tickMs, if_pos hs]
      rfl
    · rw [State.session_tick, if_neg hnot, Session.tickMs, if_neg hs]
    · rw [State.lock_tick, if_neg hnot]
      rfl
    · rw [State.engine_tick, if_neg hnot]
      rfl
    · rw [State.engine_tick, if_neg hnot]
      obtain hs | hs | hs := hs <;> simpa [Engine.tickMs, hs, Config.busTimeout] using countBusTimer_cases _ _
    · rw [State.engine_tick, if_neg hnot]
      obtain hs | hs | hs := hs <;> simp [Engine.tickMs, hs]
    · constructor
      case engines => simp [allPorts]
      case sessions => simp [allPorts]
      case locks => simp [allLocks]
      case groups => simp [allGroups]
      case msPhase | sclSample | pending => rw [State.tick_of_le hle]
      all_goals (rw [State.tick_of_le hle]; intros; rfl)

end Sys2Proof.Machine
end

section
/-! What one operation on a lock can change: the lock's record, the endings that it hands to stretched engines, the posts and orders
that it sends. Every rule of the lock table is such an operation (R5, R14, R33 to R51). -/

namespace Sys2Proof.Machine

/-! ### The entries of a lock -/

/-- The ports that wait at a lock, in the queue or as its target, each with its blocking flag (R26). -/
def LockRec.flags (lk : LockRec) : List (Port × Bool) := (lk.queue ++ lk.target.toList).map fun w => (w.port, w.blocking)

/-- A port waits at most once at the lock, and only a lock in HANDOVER has a target (R1, R27, R36). -/
def LockRec.WaitsOnce (lk : LockRec) : Prop :=
  (lk.flags.map Prod.fst).Nodup ∧ (lk.target.isSome = true → lk.state = .handover)

section
variable {l : LockId} {lk : LockRec} {p q : Port}

theorem LockRec.blocks_iff : lk.blocks p = true ↔ (p, true) ∈ lk.flags := by
  unfold LockRec.blocks LockRec.flags
  cases lk.target <;> simp [eq_comm (a := p)]

theorem LockRec.flags_ports (lk : LockRec) : lk.flags.map Prod.fst = lk.queue.map Waiter.port ++ (lk.target.map Waiter.port).toList := by
  unfold LockRec.flags
  cases lk.target <;> simp [Function.comp_def]

theorem LockRec.Sound.waitsOnce (h : lk.Sound l) : lk.WaitsOnce := by
  obtain ⟨-, htarget, hplaces⟩ := h.places
  refine ⟨?_, htarget.mp⟩
  rw [LockRec.flags_ports]
  refine List.nodup_append'.mpr ⟨h.ports_nodup, by cases lk.target <;> simp, fun q hq ht => ?_⟩
  cases hw : lk.target with
  | none => simp [hw] at ht
  | some w =>
    obtain ⟨-, -, hport⟩ := hplaces w hw
    simp only [hw, Option.map_some, Option.toList_some, List.mem_singleton] at ht
    exact hport (ht ▸ hq)

end

/-! ### The change of one lock -/

/-- An ending handed to an engine, which keeps the first one (R42). -/
def Engine.hand (e : Engine) (x : Ending) : Engine := { e with handed := e.handed <|> some x }

theorem Engine.hand_hand (e : Engine) (x y : Ending) : (e.hand x).hand y = e.hand x := by
  cases h : e.handed <;> simp [Engine.hand, h]

/-- What a command, an order or a report may change in a group without touching its route: the lines of the group and its binding
stay (R59, R64). -/
structure Group.Keeps (g x : Group) : Prop where
  sound : g.Sound → x.Sound
  lock : x.lock = g.lock
  select : x.select = g.select
  enable : x.enable = g.enable

/-- A post that was there before, or that needs no guard, or whose session is OPEN (R50, R121). -/
def State.PostAllowed (s : State) (posts : List Post) (x : Post) : Prop :=
  x ∈ posts ∨ x.notice.guarded = false ∨ (s.session x.port).state = .opened

/-- An operation on lock `l`, which serves its entries well under the condition `A`. The ports of `owed` have lost their blocking entry and
may still wait for the ending that they are owed (R40 to R44). -/
structure LockOp (A : Prop) (l : LockId) (owed : Port → Prop) (s t : State) : Prop where
  frame : t = { s with engines := t.engines, locks := t.locks, groups := t.groups, lockPosts := t.lockPosts }
  other : ∀ l', l' ≠ l → t.lock l' = s.lock l'
  binding : (t.lock l).group = (s.lock l).group
  once : A → (s.lock l).WaitsOnce → (t.lock l).WaitsOnce
  engine : ∀ q, t.engine q = s.engine q ∨ ∃ x, t.engine q = (s.engine q).hand x
  entries : A → (s.lock l).WaitsOnce → ∀ q,
    t.engine q = s.engine q ∧ (t.lock l).blocks q = (s.lock l).blocks q ∨
      ((s.lock l).blocks q = true ∧ (t.lock l).blocks q = false) ∧
        (owed q ∧ t.engine q = s.engine q ∨ ∃ x, t.engine q = (s.engine q).hand x)
  group : ∀ g, (s.group g).Keeps (t.group g)
  posts : ∀ x ∈ t.lockPosts, s.PostAllowed s.lockPosts x

theorem Group.Keeps.refl (g : Group) : g.Keeps g := ⟨id, rfl, rfl, rfl⟩

theorem Group.Keeps.trans {g x y : Group} (h : g.Keeps x) (h' : x.Keeps y) : g.Keeps y :=
  ⟨h'.sound ∘ h.sound, h'.lock.trans h.lock, h'.select.trans h.select, h'.enable.trans h.enable⟩

section
variable {A : Prop} {l : LockId} {owed owed' : Port → Prop} {s t u : State}

theorem LockOp.session (h : LockOp A l owed s t) (p : Port) : t.session p = s.session p := by rw [h.frame]; rfl

theorem LockOp.refl (l : LockId) (s : State) : LockOp A l (fun _ => False) s s where
  frame := rfl
  other _ _ := rfl
  binding := rfl
  once _ := id
  engine _ := .inl rfl
  entries _ _ _ := .inl ⟨rfl, rfl⟩
  group _ := .refl _
  posts _ hx := .inl hx

theorem LockOp.mono (h : LockOp A l owed s t) (himp : ∀ q, owed q → owed' q) : LockOp A l owed' s t :=
  { h with entries := fun ha hw q => (h.entries ha hw q).imp_right (.imp_right (.imp_left (.imp_left (himp q)))) }

/-- Under the condition nothing is owed after all. -/
theorem LockOp.settled (h : LockOp A l owed s t) (hno : A → ∀ q, ¬ owed q) : LockOp A l (fun _ => False) s t :=
  { h with entries := fun ha hw q => (h.entries ha hw q).imp_right (.imp_right (.imp_left (.imp_left (hno ha q)))) }

/-- Operations on one lock one after the other. -/
theorem LockOp.trans (h : LockOp A l owed s u) (h' : LockOp A l owed' u t) : LockOp A l (fun q => owed q ∨ owed' q) s t where
  frame := h'.frame.trans (by rw [h.frame])
  other l' hl := (h'.other l' hl).trans (h.other l' hl)
  binding := h'.binding.trans h.binding
  once ha := h'.once ha ∘ h.once ha
  engine q := by
    obtain hq | ⟨x, hq⟩ := h'.engine q
    · rw [hq]
      exact h.engine q
    · obtain hp | ⟨y, hp⟩ := h.engine q
      · exact .inr ⟨x, by rw [hq, hp]⟩
      · exact .inr ⟨y, by rw [hq, hp, Engine.hand_hand]⟩
  entries ha hw q := by
    obtain ⟨he, hb⟩ | ⟨⟨hb1, hb2⟩, hx⟩ := h.entries ha hw q
    · rw [← he, ← hb]
      exact (h'.entries ha (h.once ha hw) q).imp_right (.imp_right (.imp_left (.imp_left .inr)))
    · obtain ⟨he', hb'⟩ | ⟨⟨hb', -⟩, -⟩ := h'.entries ha (h.once ha hw) q
      · rw [he', hb']
        exact .inr ⟨⟨hb1, hb2⟩, hx.imp_left (.imp_left .inl)⟩
      · rw [hb2] at hb'
        cases hb'
  group g := (h.group g).trans (h'.group g)
  posts x hx := by
    obtain hx | hx | hx := h'.posts x hx
    · exact h.posts x hx
    · exact .inr (.inl hx)
    · exact .inr (.inr (by rwa [h.session] at hx))

/-- Nothing is owed after two operations that owe nothing. -/
theorem LockOp.then (h : LockOp A l owed s u) (h' : LockOp A l (fun _ => False) u t) : LockOp A l owed s t :=
  (h.trans h').mono fun _ => Or.rec id False.elim

/-- A lock record is written whose entries have lost the blocking ports of `owed`. -/
theorem LockOp.setLock {lk : LockRec} (hgroup : lk.group = (s.lock l).group) (honce : A → (s.lock l).WaitsOnce → lk.WaitsOnce)
    (hblocks : A → (s.lock l).WaitsOnce → ∀ q,
      lk.blocks q = (s.lock l).blocks q ∨ ((s.lock l).blocks q = true ∧ lk.blocks q = false) ∧ owed q) :
    LockOp A l owed s (s.setLock l lk) where
  frame := rfl
  other l' hl := by rw [State.lock_setLock, if_neg hl.symm]
  binding := by simpa using hgroup
  once := by simpa using honce
  engine _ := .inl rfl
  entries ha hw q := by
    have h := hblocks ha hw q
    simp only [State.lock_setLock, if_true]
    exact h.imp (fun hb => ⟨rfl, hb⟩) fun ⟨hb, ho⟩ => ⟨hb, .inl ⟨ho, rfl⟩⟩
  group _ := .refl _
  posts _ hx := .inl hx

/-- A lock record is written without the entries of `gone`. -/
theorem LockOp.setLock_of_perm {lk : LockRec} (gone : List (Port × Bool)) (hgroup : lk.group = (s.lock l).group)
    (hflags : A → (s.lock l).WaitsOnce → (s.lock l).flags.Perm (gone ++ lk.flags))
    (htarget : A → (s.lock l).WaitsOnce → lk.target.isSome = true → lk.state = .handover) :
    LockOp A l (fun q => (q, true) ∈ gone) s (s.setLock l lk) := by
  refine LockOp.setLock hgroup (fun ha hw => ⟨?_, htarget ha hw⟩) fun ha hw q => ?_
  · have hnodup := ((hflags ha hw).map Prod.fst).nodup_iff.mp hw.1
    rw [List.map_append] at hnodup
    exact hnodup.of_append_right
  · have hperm := hflags ha hw
    have hmem : (s.lock l).blocks q = true ↔ (q, true) ∈ gone ∨ lk.blocks q = true := by
      rw [LockRec.blocks_iff, LockRec.blocks_iff, hperm.mem_iff, List.mem_append]
    by_cases hg : (q, true) ∈ gone
    · refine .inr ⟨⟨hmem.mpr (.inl hg), ?_⟩, hg⟩
      have hnodup := (hperm.map Prod.fst).nodup_iff.mp hw.1
      rw [List.map_append] at hnodup
      rw [← Bool.not_eq_true, LockRec.blocks_iff]
      exact fun hb => (List.disjoint_of_nodup_append hnodup) (List.mem_map_of_mem hg) (List.mem_map_of_mem hb)
    · refine .inl (Bool.eq_iff_iff.mpr ?_)
      rw [hmem]
      simp [hg]

/-- A lock record is written with the same entries. -/
theorem LockOp.setLock_of_flags {lk : LockRec} (hgroup : lk.group = (s.lock l).group) (hflags : lk.flags = (s.lock l).flags)
    (htarget : A → (s.lock l).WaitsOnce → lk.target.isSome = true → lk.state = .handover) :
    LockOp A l (fun _ => False) s (s.setLock l lk) :=
  (LockOp.setLock_of_perm [] hgroup (fun _ _ => hflags ▸ .refl _) htarget).mono (by simp)

/-- A port that has lost its blocking entry is handed its ending. -/
theorem LockOp.hand (h : LockOp A l owed s t) (p : Port) (x : Ending)
    (hp : A → (s.lock l).WaitsOnce → (s.lock l).blocks p = true ∧ (t.lock l).blocks p = false) :
    LockOp A l (fun q => owed q ∧ q ≠ p) s (t.handEnding p x) := by
  have hother (q : Port) (hq : q ≠ p) : (t.handEnding p x).engine q = t.engine q := by
    rw [State.engine_handEnding, if_neg hq.symm]
  have hself : (t.handEnding p x).engine p = (t.engine p).hand x := by
    rw [State.engine_handEnding, if_pos rfl]
    rfl
  have hhand : ∃ y, (t.handEnding p x).engine p = (s.engine p).hand y := by
    obtain he | ⟨y, he⟩ := h.engine p
    · exact ⟨x, by rw [hself, he]⟩
    · exact ⟨y, by rw [hself, he, Engine.hand_hand]⟩
  refine ⟨?_, h.other, h.binding, h.once, fun q => ?_, fun ha hw q => ?_, h.group, h.posts⟩
  · have hf := h.frame
    rw [State.handEnding_frame]
    generalize (t.handEnding p x).engines = E
    rw [hf]
  · by_cases hq : q = p
    · exact .inr (hq ▸ hhand)
    · rw [hother q hq]
      exact h.engine q
  · by_cases hq : q = p
    · exact .inr ⟨hq ▸ hp ha hw, .inr (hq ▸ hhand)⟩
    · rw [hother q hq]
      exact (h.entries ha hw q).imp_right (.imp_right (.imp_left (.imp_left fun ho => ⟨ho, hq⟩)))

theorem LockOp.endStretch (h : LockOp A l owed s t) (w : Waiter) (x : Ending)
    (hw : A → (s.lock l).WaitsOnce → (s.lock l).blocks w.port = true ∧ (t.lock l).blocks w.port = false) :
    LockOp A l (fun q => owed q ∧ q ≠ w.port) s (t.endStretch w x) := h.hand w.port _ hw

/-- The lock table sends posts. -/
theorem LockOp.post (s : State) (l : LockId) {posts : List Post} (h : ∀ x ∈ posts, s.PostAllowed s.lockPosts x) :
    LockOp A l (fun _ => False) s { s with lockPosts := posts } :=
  { LockOp.refl l s with frame := rfl, posts := h }

theorem LockOp.postGuarded (s : State) (l : LockId) (w : Waiter) (n : Notice) (k : Option Port) :
    LockOp A l (fun _ => False) s (s.postGuarded w n k) := by
  unfold State.postGuarded
  split
  · next h =>
    refine LockOp.post s l fun x hx => ?_
    obtain hx | hx := List.mem_append.mp hx
    · exact .inl hx
    · rw [List.mem_singleton] at hx
      subst hx
      exact .inr (.inr ((State.sessionIs_iff _ _ _).mp h).1)
  · exact .refl l s

theorem LockOp.postFromLocks (s : State) (l : LockId) (p : Port) {n : Notice} (hn : n.guarded = false) (k : Option Port) :
    LockOp A l (fun _ => False) s (s.postFromLocks p n k) := by
  refine LockOp.post s l fun x hx => ?_
  obtain hx | hx := List.mem_append.mp hx
  · exact .inl hx
  · rw [List.mem_singleton] at hx
    subst hx
    exact .inr (.inl hn)

theorem LockOp.postRevoked (s : State) (l : LockId) (reason : RevokeReason) (hs : List Holder) :
    LockOp A l (fun _ => False) s (s.postRevoked l reason hs) := by
  induction hs generalizing s with
  | nil => exact .refl l s
  | cons h hs ih => exact (LockOp.postFromLocks s l h.port (by rfl) none).then (ih _)

/-- An order is appended to the group of the lock (R64). -/
theorem LockOp.sendOrder (s : State) (l : LockId) (o : Order) : LockOp A l (fun _ => False) s (s.sendOrder l o) := by
  have hframe := State.sendOrder_frame s l o
  have hlock (l' : LockId) : (s.sendOrder l o).lock l' = s.lock l' := by rw [hframe]; rfl
  have hengine (q : Port) : (s.sendOrder l o).engine q = s.engine q := by rw [hframe]; rfl
  refine ⟨?_, fun l' _ => hlock l', by rw [hlock], by rw [hlock]; exact fun _ => id, fun q => .inl (hengine q),
    fun _ _ q => .inl ⟨hengine q, by rw [hlock]⟩, fun g => ?_, fun x hx => ?_⟩
  · rw [hframe]
  · rw [State.group_sendOrder]
    split
    · exact ⟨id, rfl, rfl, rfl⟩
    · exact .refl _
  · rw [hframe] at hx
    exact .inl hx

/-! ### The grant pass and the release path -/

/-- A grant is told to the port of an entry that has left the lock (R40, R50). -/
theorem LockOp.deliverGrant (h : LockOp A l owed s t) (w : Waiter) (m : Mode) (gen : Word16) (k : Option Port)
    (hw : A → (s.lock l).WaitsOnce → w.blocking = true → (s.lock l).blocks w.port = true ∧ (t.lock l).blocks w.port = false) :
    LockOp A l (fun q => owed q ∧ (q, true) ≠ (w.port, w.blocking)) s (t.deliverGrant l w m gen k) := by
  unfold State.deliverGrant
  split
  · next hb => exact (h.endStretch w _ fun ha ho => hw ha ho hb).mono fun q ⟨ho, hq⟩ => ⟨ho, by simpa [hb] using hq⟩
  · next hb =>
    refine (h.then (LockOp.postGuarded t l w _ k)).mono fun q ho => ⟨ho, ?_⟩
    simp [hb]

theorem LockOp.deliverBatch (h : LockOp A l owed s t) (gen : Word16) (k : Option Port) (ws : List Waiter)
    (hws : ∀ w ∈ ws, A → (s.lock l).WaitsOnce → w.blocking = true →
      (s.lock l).blocks w.port = true ∧ (t.lock l).blocks w.port = false) :
    LockOp A l (fun q => owed q ∧ (q, true) ∉ ws.map fun w => (w.port, w.blocking)) s (t.deliverBatch l gen k ws) := by
  induction ws generalizing owed t with
  | nil => exact h.mono (by simp)
  | cons w ws ih =>
    have hlock : (t.deliverGrant l w .shared gen k).lock l = t.lock l := by rw [State.deliverGrant_frame]; rfl
    refine (ih (h.deliverGrant w .shared gen k (hws w (by simp))) fun x hx => ?_).mono ?_
    · rw [hlock]
      exact hws x (by simp [hx])
    · rintro q ⟨⟨ho, hq⟩, hqs⟩
      refine ⟨ho, ?_⟩
      rw [List.map_cons, List.mem_cons, not_or]
      exact ⟨hq, hqs⟩

/-- The entries that leave the lock in a pass are told, and then nothing is owed. -/
theorem LockOp.told {lk : LockRec} {ws : List Waiter} (hgroup : lk.group = (s.lock l).group)
    (hqueue : (s.lock l).queue = ws ++ lk.queue) (htarget : lk.target = (s.lock l).target)
    (hstate : (s.lock l).state ≠ .handover) :
    LockOp A l (fun q => (q, true) ∈ ws.map fun w => (w.port, w.blocking)) s (s.setLock l lk) ∧
      ∀ w ∈ ws, A → (s.lock l).WaitsOnce → w.blocking = true →
        (s.lock l).blocks w.port = true ∧ ((s.setLock l lk).lock l).blocks w.port = false := by
  have hflags : (s.lock l).flags = (ws.map fun w => (w.port, w.blocking)) ++ lk.flags := by
    simp [LockRec.flags, hqueue, htarget]
  refine ⟨LockOp.setLock_of_perm _ hgroup (fun _ _ => hflags ▸ .refl _) fun _ ho ht => ?_, fun w hw _ ho hb => ?_⟩
  · exact absurd (ho.2 (htarget ▸ ht)) hstate
  · have hmem : (w.port, true) ∈ ws.map fun w => (w.port, w.blocking) := List.mem_map.mpr ⟨w, hw, by rw [hb]⟩
    have hnodup := ho.1
    rw [hflags, List.map_append] at hnodup
    refine ⟨LockRec.blocks_iff.mpr (hflags ▸ List.mem_append_left _ hmem), ?_⟩
    rw [State.lock_setLock, if_pos rfl, ← Bool.not_eq_true, LockRec.blocks_iff]
    exact fun hlk => (List.disjoint_of_nodup_append hnodup) (List.mem_map_of_mem hmem) (List.mem_map_of_mem hlk)

/-- The batch stands at the front of the queue (R35). -/
theorem sharedBatch_append_drop (queue : List Waiter) : sharedBatch queue ++ queue.drop (sharedBatch queue).length = queue :=
  List.prefix_iff_eq_append.mp (List.takeWhile_prefix _)

/-- The grant pass is an operation that owes nothing (R33 to R36). -/
theorem LockOp.grantPass (s : State) (l : LockId) (k : Option Port) : LockOp A l (fun _ => False) s (s.grantPass l k) := by
  have hnot {owed : Port → Prop} {ws : List Waiter} (h : ∀ q, owed q → (q, true) ∈ ws.map fun w => (w.port, w.blocking)) (q : Port) :
      owed q ∧ (q, true) ∉ (ws.map fun w => (w.port, w.blocking)) → False := fun ⟨ho, hq⟩ => hq (h q ho)
  unfold State.grantPass
  obtain hp | ⟨w, rest, hq, hs, -, -, hp⟩ | ⟨w, rest, hq, -, hs, hp⟩ | ⟨w, rest, h, hq, hs, -, -, -, hp⟩ |
    ⟨w, rest, g, hq, hs, -, -, hp⟩ := (s.lock l).pass_cases <;> simp only [hp, LockRec.afterPass, State.tellPass]
  · rw [State.setLock_self]
    exact .refl l s
  · obtain ⟨hop, hgone⟩ := LockOp.told (A := A) (s := s) (l := l) (ws := [w])
      (lk := { (s.lock l).grant .exclusive [w.port] with queue := (s.lock l).queue.tail }) rfl (by simp [hq]) rfl (by simp [hs])
    exact (hop.deliverGrant w .exclusive _ k (hgone w (by simp))).mono (by simp)
  · obtain ⟨hop, hgone⟩ := LockOp.told (A := A) (s := s) (l := l) (ws := sharedBatch (s.lock l).queue)
      (lk := { (s.lock l).grant .shared ((sharedBatch (s.lock l).queue).map (·.port)) with
        queue := (s.lock l).queue.drop (sharedBatch (s.lock l).queue).length }) rfl
      (sharedBatch_append_drop _).symm rfl (by obtain ⟨hs, -⟩ | hs := hs <;> simp [hs])
    exact (hop.deliverBatch _ k _ hgone).mono (hnot fun _ => id)
  · obtain ⟨hop, hgone⟩ := LockOp.told (A := A) (s := s) (l := l) (ws := [w])
      (lk := { (s.lock l).grant .exclusive [w.port] with queue := (s.lock l).queue.tail }) rfl (by simp [hq]) rfl (by simp [hs])
    exact (hop.deliverGrant w .exclusive _ k (hgone w (by simp))).mono (by simp)
  · refine LockOp.then ?_ (LockOp.sendOrder _ l _)
    refine (LockOp.setLock_of_perm [] (by rfl) (fun _ ho => ?_) fun _ _ _ => rfl).mono (by simp)
    have hnone : (s.lock l).target = none := by
      by_contra hne
      have := ho.2 (Option.isSome_iff_ne_none.mpr hne)
      simp [hs] at this
    simp only [LockRec.flags, hq, hnone, List.tail_cons, List.nil_append, Option.toList_none, Option.toList_some,
      List.append_nil, List.map_append, List.map_cons, List.map_nil]
    exact (List.perm_append_singleton _ _).symm

/-- A lock vacates (R14, R49): its target is discarded, so the port of a blocking target is owed its ending. -/
theorem LockOp.vacate {lk : LockRec} (from_ : Option Port) (hgroup : lk.group = (s.lock l).group)
    (hqueue : lk.queue.map (fun w => (w.port, w.blocking)) = (s.lock l).queue.map fun w => (w.port, w.blocking)) :
    LockOp A l (fun q => ∃ w ∈ (s.lock l).target, w.port = q ∧ w.blocking = true) s (s.vacate l lk from_) := by
  refine LockOp.then ?_ (LockOp.sendOrder _ l _)
  refine (LockOp.setLock_of_perm (lk := { lk with state := .vacating, vacatingFrom := from_, target := none })
    ((s.lock l).target.toList.map fun w => (w.port, w.blocking)) hgroup (fun _ _ => ?_) (fun _ _ => nofun)).mono ?_
  · simp only [LockRec.flags, List.map_append, Option.toList_none, List.append_nil, hqueue]
    exact List.perm_append_comm
  · intro q hq
    obtain ⟨w, hw, heq⟩ := List.mem_map.mp hq
    rw [Prod.mk.injEq] at heq
    exact ⟨w, Option.mem_toList.mp hw, heq⟩

theorem demoteUpgrade_flag (ports : List Port) (w : Waiter) :
    ((demoteUpgrade ports w).port, (demoteUpgrade ports w).blocking) = (w.port, w.blocking) := by
  unfold demoteUpgrade
  split <;> rfl

theorem LockRec.flags_withoutHolders (lk : LockRec) (ports : List Port) : (lk.withoutHolders ports).flags = lk.flags := by
  simp [LockRec.flags, LockRec.withoutHolders, demoteUpgrade_flag]

/-- The release path at a lock without a target owes nothing (R14). -/
theorem LockOp.releasePath (s : State) (l : LockId) (ports : List Port) (k : Option Port)
    (htarget : A → (s.lock l).target = none) : LockOp A l (fun _ => False) s (s.releasePath l ports k) := by
  have hnone (st : LockState) (ha : A) (_ : (s.lock l).WaitsOnce)
      (ht : ({ (s.lock l).withoutHolders ports with state := st } : LockRec).target.isSome = true) : st = .handover := by
    change (s.lock l).target.isSome = true at ht
    rw [htarget ha] at ht
    cases ht
  simp only [State.releasePath]
  split
  · split
    · exact LockOp.then (.setLock_of_flags (lk := { (s.lock l).withoutHolders ports with state := .free }) rfl
        (LockRec.flags_withoutHolders (s.lock l) ports) (hnone .free)) (.grantPass _ l k)
    · refine (LockOp.vacate (s := s) (l := l) (lk := (s.lock l).withoutHolders ports) _ rfl ?_).settled
        (fun ha q ⟨w, hw, _⟩ => by simp [htarget ha] at hw)
      simp [LockRec.withoutHolders, Function.comp_def, demoteUpgrade_flag]
  · exact LockOp.then (.setLock_of_flags (lk := (s.lock l).withoutHolders ports) rfl
      (LockRec.flags_withoutHolders (s.lock l) ports) (hnone (s.lock l).state)) (.grantPass _ l k)

end

end Sys2Proof.Machine
end

section
/-! What each operation makes of one lock record: a sound record stays sound, and at most one grant steps its generation (R2 to R7,
R14, R18, R25, R27 to R36, R49). -/

namespace Sys2Proof.Machine

variable {l : LockId} {lk : LockRec} {p : Port}

/-! ### Grants of a record -/

/-- What an operation must leave of a lock record: it stays sound, and its generation steps at most once. -/
structure LockRec.Moves (l : LockId) (a b : LockRec) : Prop where
  sound : a.Sound l → b.Sound l
  grants : a.Sound l → a.GrantsAtMostOnce b

/-- Every holder of `b` has held `a` under the same generation. -/
def LockRec.HoldersFrom (a b : LockRec) : Prop := ∀ h ∈ b.holders, ∃ k ∈ a.holders, k.port = h.port ∧ k.gen = h.gen

theorem LockRec.HoldersFrom.refl (a : LockRec) : a.HoldersFrom a := fun h hh => ⟨h, hh, rfl, rfl⟩

theorem LockRec.HoldersFrom.of_sublist {a b : LockRec} (h : b.holders.Sublist a.holders) : a.HoldersFrom b :=
  fun x hx => ⟨x, h.mem hx, rfl, rfl⟩

theorem LockRec.HoldersFrom.of_nil {a b : LockRec} (h : b.holders = []) : a.HoldersFrom b := by
  simp [LockRec.HoldersFrom, h]

/-- No grant takes place. -/
theorem LockRec.grants_of_kept {a b : LockRec} (hgen : b.gen = a.gen) (h : a.HoldersFrom b) : a.GrantsAtMostOnce b := .inl ⟨hgen, h⟩

/-- A grant after holders have been removed is a grant. -/
theorem LockRec.HoldersFrom.then_grants {a b c : LockRec} (h : a.HoldersFrom b) (hgen : b.gen = a.gen)
    (hc : b.GrantsAtMostOnce c) : a.GrantsAtMostOnce c := by
  have hfrom {x : Holder} (hx : ∃ k ∈ b.holders, k.port = x.port ∧ k.gen = x.gen) : ∃ k ∈ a.holders, k.port = x.port ∧ k.gen = x.gen := by
    obtain ⟨k, hk, h1, h2⟩ := hx
    obtain ⟨k', hk', h3, h4⟩ := h k hk
    exact ⟨k', hk', h3.trans h1, h4.trans h2⟩
  obtain ⟨hg, hx⟩ | ⟨hg, hnew, hx⟩ := hc
  · exact .inl ⟨hg.trans hgen, fun x hx' => hfrom (hx x hx')⟩
  · exact .inr ⟨hgen ▸ hg, hnew, fun x hx' => (hx x hx').imp_right hfrom⟩

/-- Holders removed after a grant leave a grant, as long as a new holder stays. -/
theorem LockRec.HoldersFrom.grants_then {a b c : LockRec} (hb : a.GrantsAtMostOnce b) (hsub : c.holders.Sublist b.holders)
    (hgen : c.gen = b.gen) (hstay : b.gen = a.gen ∨ ∃ h ∈ c.holders, h.gen = b.gen) : a.GrantsAtMostOnce c := by
  obtain ⟨hg, hx⟩ | ⟨hg, -, hx⟩ := hb
  · exact .inl ⟨hgen.trans hg, fun x hx' => hx x (hsub.mem hx')⟩
  · obtain hsame | ⟨h, hh, hhg⟩ := hstay
    · refine .inl ⟨hgen.trans hsame, fun x hx' => ?_⟩
      exfalso
      have hne : (if a.gen = 65535 then (1 : Word16) else a.gen + 1) ≠ a.gen := by
        split
        · next h => rw [h]; decide
        · exact fun h => absurd (add_eq_left.mp h) (by decide)
      exact hne (hg.symm.trans hsame)
    · exact .inr ⟨hgen.trans hg, ⟨h, hh, hhg.trans hgen.symm⟩, fun x hx' => hgen ▸ hx x (hsub.mem hx')⟩

/-- The grant step is one grant (R5). -/
theorem LockRec.grant_grants {m : Mode} {ports : List Port} (hports : ports ≠ []) : lk.GrantsAtMostOnce (lk.grant m ports) := by
  refine .inr ⟨rfl, ?_, fun h hh => ?_⟩
  · obtain ⟨q, hq⟩ := List.exists_mem_of_ne_nil ports hports
    exact ⟨lk.newHolder m q, List.mem_append_right _ (List.mem_map_of_mem hq), rfl⟩
  · obtain hh | hh := List.mem_append.mp hh
    · exact .inr ⟨h, List.mem_of_mem_filter hh, rfl, rfl⟩
    · obtain ⟨q, -, rfl⟩ := List.mem_map.mp hh
      exact .inl rfl

/-- The pass grants at most once (R33). -/
theorem LockRec.passed_grants (lk : LockRec) : lk.GrantsAtMostOnce lk.passed := by
  obtain hp | ⟨w, rest, -, -, -, -, hp⟩ | ⟨w, rest, hq, hw, -, hp⟩ | ⟨w, rest, h, -, -, -, -, -, hp⟩ |
    ⟨w, rest, g, -, -, -, -, hp⟩ := lk.pass_cases <;> rw [LockRec.passed, hp]
  · exact grants_of_kept rfl (.refl lk)
  · exact LockRec.grant_grants (lk := lk) (m := .exclusive) (ports := [w.port]) (by simp)
  · refine LockRec.grant_grants (lk := lk) (m := .shared) (ports := (sharedBatch lk.queue).map (·.port)) ?_
    simp [sharedBatch, hq, hw]
  · exact LockRec.grant_grants (lk := lk) (m := .exclusive) (ports := [w.port]) (by simp)
  · exact grants_of_kept rfl (.refl lk)

/-! ### The records that a pass makes sound -/

/-- A lock record that is sound but for this: a FREE one may still have waiters, which the pass that follows serves. -/
structure LockRec.Settling (l : LockId) (lk : LockRec) : Prop where
  holders : lk.HoldersFit
  ports : (lk.queue.map Waiter.port).Nodup
  tail : ∀ w ∈ lk.queue.tail, w.req ≠ .upgrade
  upgrade : ∀ w ∈ lk.queue, w.req = .upgrade → lk.state = .shared ∧ w.port ∈ lk.holders.map Holder.port
  places : lk.PlacesFit
  attributes : lk.AttributesFit l

theorem LockRec.Sound.settling (h : lk.Sound l) : lk.Settling l :=
  have ⟨hports, _, htail, hupgrade⟩ := h.queue
  ⟨h.holders, hports, htail, hupgrade, h.places, h.attributes⟩

theorem LockRec.Settling.sound (h : lk.Settling l) (hfree : lk.state = .free → lk.queue = []) : lk.Sound l :=
  ⟨h.holders, ⟨h.ports, hfree, h.tail, h.upgrade⟩, h.places, h.attributes⟩

theorem nextGen_ne_zero (g : Word16) : nextGen g ≠ 0 := by
  unfold nextGen
  split
  · decide
  · next h =>
    intro hz
    have hg : g = -1 := eq_neg_of_add_eq_zero_left hz
    exact h (hg.trans (by decide))

/-- A FREE or SHARED record has neither target nor vacating-from (R1). -/
theorem LockRec.Settling.no_places (h : lk.Settling l) (hs : lk.state = .free ∨ lk.state = .shared) :
    lk.vacatingFrom = none ∧ lk.target = none := by
  obtain ⟨hvacating, htarget, -⟩ := h.places
  have h1 : lk.state ≠ .vacating := by obtain hs | hs := hs <;> simp [hs]
  have h2 : lk.state ≠ .handover := by obtain hs | hs := hs <;> simp [hs]
  exact ⟨by simpa using mt hvacating.mp h1, by simpa using mt htarget.mp h2⟩

/-- Entries of the queue, in their order and without an UPGRADE among them, may stand at any lock that is held. -/
theorem LockRec.Settling.queueFits (h : lk.Settling l) {b : LockRec} (hsub : b.queue.Sublist lk.queue)
    (hno : ∀ w ∈ b.queue, w.req ≠ .upgrade) (hfree : b.state ≠ .free) : b.QueueFits :=
  ⟨(hsub.map _).nodup h.ports, fun hf => absurd hf hfree, fun w hw => hno w (List.mem_of_mem_tail hw),
    fun w hw hu => absurd hu (hno w hw)⟩

/-- A record with neither target nor vacating-from fits its state. -/
theorem LockRec.placesFit_of_none (h1 : lk.vacatingFrom = none) (h2 : lk.target = none) (h3 : lk.state ≠ .vacating)
    (h4 : lk.state ≠ .handover) : lk.PlacesFit := by
  refine ⟨?_, ?_, ?_⟩ <;> simp [h1, h2, h3, h4]

/-- The grant step on a FREE or SHARED record, the granted entries out of the queue (R5). -/
theorem LockRec.Settling.grant_sound (h : lk.Settling l) (hs : lk.state = .free ∨ lk.state = .shared) {m : Mode}
    {ports : List Port} {queue : List Waiter} (hsub : queue.Sublist lk.queue) (hno : ∀ w ∈ queue, w.req ≠ .upgrade)
    (hexcl : m = .exclusive → (∃ q, ports = [q]) ∧ ∀ x ∈ lk.holders, x.port ∈ ports)
    (hshared : m = .shared → ports ≠ [] ∧ ports.Nodup ∧ lk.sharedAllowed = true ∧ lk.group = none) :
    ({ lk.grant m ports with queue := queue } : LockRec).Sound l := by
  obtain ⟨hvacating, htarget⟩ := h.no_places hs
  obtain ⟨-, hsh, hnone, hgen⟩ := h.holders
  obtain ⟨hatt1, hatt2, hatt3, hatt4⟩ := h.attributes
  have hgens : ∀ x ∈ (lk.grant m ports).holders, x.gen ≠ 0 := by
    intro x hx
    obtain hx | hx := List.mem_append.mp hx
    · exact hgen x (List.mem_of_mem_filter hx)
    · obtain ⟨q, -, rfl⟩ := List.mem_map.mp hx
      exact nextGen_ne_zero lk.gen
  have hstate : (lk.grant m ports).state = heldState m := rfl
  have hholders : (lk.grant m ports).holders = lk.holders.filter (fun x => decide (x.port ∉ ports)) ++ ports.map (lk.newHolder m) := rfl
  refine ⟨⟨fun he => ?_, fun he => ?_, fun h1 h2 => ?_, hgens⟩, h.queueFits hsub hno (by cases m <;> simp [hstate, heldState]),
    LockRec.placesFit_of_none hvacating htarget (by cases m <;> simp [hstate, heldState]) (by cases m <;> simp [hstate, heldState]),
    fun he => ?_, fun w hw => hatt2 w (hsub.mem hw), fun _ => by cases m <;> simp [hstate, heldState], hatt4⟩
  · cases m with
    | shared => cases he
    | exclusive =>
      obtain ⟨⟨q, rfl⟩, hall⟩ := hexcl rfl
      have hnil : lk.holders.filter (fun x => decide (x.port ∉ [q])) = [] :=
        List.filter_eq_nil_iff.mpr fun x hx => by simpa using hall x hx
      have hone : (lk.grant .exclusive [q]).holders = [lk.newHolder .exclusive q] := by
        rw [hholders, hnil]
        rfl
      simp [hone, LockRec.newHolder]
  · cases m with
    | exclusive => cases he
    | shared =>
      obtain ⟨hne, hnodup, -⟩ := hshared rfl
      have hold : ∀ x ∈ lk.holders, x.mode = .shared := by
        obtain hs | hs := hs
        · simp [hnone (by simp [hs]) (by simp [hs])]
        · exact (hsh hs).2.1
      have holdNodup : (lk.holders.map Holder.port).Nodup := by
        obtain hs | hs := hs
        · simp [hnone (by simp [hs]) (by simp [hs])]
        · exact (hsh hs).2.2
      refine ⟨by simp [hholders, hne], fun x hx => ?_, ?_⟩
      · obtain hx | hx := List.mem_append.mp hx
        · exact hold x (List.mem_of_mem_filter hx)
        · obtain ⟨q, -, rfl⟩ := List.mem_map.mp hx
          rfl
      · have hnew : (ports.map (lk.newHolder .shared)).map Holder.port = ports := by
          simp [Function.comp_def, LockRec.newHolder]
        rw [show ({ lk.grant .shared ports with queue := queue } : LockRec).holders = _ from hholders, List.map_append, hnew]
        refine List.nodup_append'.mpr ⟨(List.filter_sublist.map _).nodup holdNodup, hnodup, fun q hq hqp => ?_⟩
        obtain ⟨x, hx, rfl⟩ := List.mem_map.mp hq
        simp [List.mem_filter, hqp] at hx
  · cases m
    · exact absurd rfl h2
    · exact absurd rfl h1
  · cases m with
    | exclusive => cases he
    | shared => exact (hshared rfl).2.2

/-- Nothing is left to a FREE record that the pass could serve (R34). -/
theorem LockRec.Settling.queue_of_nothing (h : lk.Settling l) (hp : lk.pass = .nothing) (hfree : lk.state = .free) : lk.queue = [] := by
  cases hq : lk.queue with
  | nil => rfl
  | cons w rest =>
    obtain ⟨-, hshared, -⟩ := h.attributes
    cases hw : w.req with
    | exclusive =>
      cases hg : lk.group with
      | none => simp [LockRec.pass_of_free_unbound_exclusive hq hfree hg hw] at hp
      | some g => simp [LockRec.pass_of_free_bound_exclusive hq hfree hg hw] at hp
    | shared =>
      obtain ⟨-, hg⟩ := hshared w (by simp [hq]) hw
      simp [LockRec.pass_of_shared_head hq (.inl ⟨hfree, hg⟩) hw] at hp
    | upgrade =>
      obtain ⟨hs, -⟩ := h.upgrade w (by simp [hq]) hw
      rw [hfree] at hs
      cases hs

/-- The pass leaves a sound record (R33 to R36). -/
theorem LockRec.Settling.passed_sound (h : lk.Settling l) : lk.passed.Sound l := by
  obtain ⟨-, -, hnone, -⟩ := h.holders
  obtain ⟨hatt1, hatt2, hatt3, hatt4⟩ := h.attributes
  have htail {w : Waiter} {rest : List Waiter} (hq : lk.queue = w :: rest) :
      lk.queue.tail.Sublist lk.queue ∧ ∀ x ∈ lk.queue.tail, x.req ≠ .upgrade := ⟨List.tail_sublist _, h.tail⟩
  obtain hp | ⟨w, rest, hq, hs, -, -, hp⟩ | ⟨w, rest, hq, hw, hs, hp⟩ | ⟨w, rest, x, hq, hs, -, hx, hport, hp⟩ |
    ⟨w, rest, g, hq, hs, hg, hw, hp⟩ := lk.pass_cases <;> rw [LockRec.passed, hp]
  · exact h.sound (h.queue_of_nothing hp)
  · obtain ⟨hsub, hno⟩ := htail hq
    exact h.grant_sound (.inl hs) hsub hno (fun _ => ⟨⟨w.port, rfl⟩, by simp [hnone (by simp [hs]) (by simp [hs])]⟩) nofun
  · have hbatch : sharedBatch lk.queue ≠ [] := by simp [sharedBatch, hq, hw]
    refine h.grant_sound (hs.imp_left And.left) (List.drop_sublist _ _) (fun x hx => ?_) nofun fun _ => ⟨?_, ?_, ?_⟩
    · refine h.tail x ?_
      rw [← List.drop_one]
      exact (List.drop_sublist_drop_left _ (List.length_pos_iff.mpr hbatch)).mem hx
    · simpa using hbatch
    · exact ((sharedBatch_sublist _).map _).nodup h.ports
    · exact hatt2 w (by simp [hq]) hw
  · obtain ⟨hsub, hno⟩ := htail hq
    refine h.grant_sound (.inr hs) hsub hno (fun _ => ⟨⟨w.port, rfl⟩, fun y hy => ?_⟩) nofun
    rw [hx, List.mem_singleton] at hy
    simp [hy, hport]
  · obtain ⟨hsub, hno⟩ := htail hq
    obtain ⟨hvacating, -⟩ := h.no_places (.inl hs)
    refine ⟨⟨nofun, nofun, fun _ _ => hnone (by simp [hs]) (by simp [hs]), h.holders.2.2.2⟩,
      h.queueFits hsub hno (by simp [LockRec.afterPass]), ⟨by simp [LockRec.afterPass, hvacating], by simp [LockRec.afterPass], ?_⟩, nofun,
      fun x hx => hatt2 x (hsub.mem hx), fun hno => by simp [LockRec.afterPass, hg] at hno, hatt4⟩
    intro x hx
    obtain rfl : { w with deadline := none } = x := by simpa [LockRec.afterPass] using hx
    have hports := h.ports
    rw [hq, List.map_cons, List.nodup_cons] at hports
    exact ⟨hw, rfl, by simpa [LockRec.afterPass, hq] using hports.1⟩

theorem LockRec.Moves.refl (l : LockId) (lk : LockRec) : lk.Moves l lk := ⟨id, fun _ => LockRec.grants_of_kept rfl (.refl lk)⟩

/-- A record written without a grant. -/
theorem LockRec.Moves.of_kept {a b : LockRec} (sound : a.Sound l → b.Sound l) (hgen : b.gen = a.gen) (h : a.HoldersFrom b) :
    a.Moves l b := ⟨sound, fun _ => LockRec.grants_of_kept hgen h⟩

/-- A record written without a grant, and then the pass. -/
theorem LockRec.Moves.passed {a b : LockRec} (settling : a.Sound l → b.Settling l) (hgen : b.gen = a.gen)
    (h : a.HoldersFrom b) : a.Moves l b.passed :=
  ⟨fun hs => (settling hs).passed_sound, fun _ => h.then_grants hgen b.passed_grants⟩

/-! ### Requests -/

theorem placeByPriority_perm (w : Waiter) (queue : List Waiter) : (placeByPriority w queue).Perm (w :: queue) := by
  obtain ⟨before, after, hsplit, hplace, -⟩ := placeByPriority_spec w queue
  rw [hplace, hsplit]
  exact List.perm_middle

theorem insertWaiter_perm (w : Waiter) (queue : List Waiter) : (insertWaiter w queue).Perm (w :: queue) := by
  unfold insertWaiter
  split
  · exact .refl _
  · split
    · split
      · exact ((placeByPriority_perm w _).cons _).trans (.swap _ _ _)
      · exact placeByPriority_perm w _
    · exact .refl _

/-- A new entry leaves the UPGRADE entry, if there is one, at the head (R27, R28). -/
theorem insertWaiter_tail {w : Waiter} {queue : List Waiter} (htail : ∀ x ∈ queue.tail, x.req ≠ .upgrade)
    (hw : w.req = .upgrade → ∀ x ∈ queue, x.req ≠ .upgrade) : ∀ x ∈ (insertWaiter w queue).tail, x.req ≠ .upgrade := by
  unfold insertWaiter
  split
  · next h => simpa using hw h
  · next h =>
    have hplain {rest : List Waiter} (hrest : ∀ x ∈ rest, x.req ≠ .upgrade) : ∀ x ∈ placeByPriority w rest, x.req ≠ .upgrade := by
      intro x hx
      obtain rfl | hx := List.mem_cons.mp ((placeByPriority_perm w rest).mem_iff.mp hx)
      · exact h
      · exact hrest x hx
    split
    · next u rest =>
      split
      · exact hplain htail
      · next hu =>
        refine fun x hx => hplain (rest := u :: rest) (fun y hy => ?_) x (List.mem_of_mem_tail hx)
        obtain rfl | hy := List.mem_cons.mp hy
        · exact hu
        · exact htail y hy
    · simp

/-- A waiter entry joins the queue of a lock that is not FREE (R13, R28, R31). -/
theorem LockRec.Sound.enqueue_sound (h : lk.Sound l) {w : Waiter} (hfree : lk.state ≠ .free)
    (hwaits : lk.waitsFor w.port = false) (hshared : w.req = .shared → lk.sharedAllowed = true ∧ lk.group = none)
    (hupgrade : w.req = .upgrade → lk.state = .shared ∧ w.port ∈ lk.holders.map Holder.port ∧ ∀ x ∈ lk.queue, x.req ≠ .upgrade) :
    ({ lk with queue := insertWaiter w lk.queue } : LockRec).Sound l := by
  obtain ⟨hports, -, htail, hup⟩ := h.queue
  obtain ⟨hvacating, htarget, hplaces⟩ := h.places
  obtain ⟨hatt1, hatt2, hatt3, hatt4⟩ := h.attributes
  have hmem (x : Waiter) : x ∈ insertWaiter w lk.queue ↔ x = w ∨ x ∈ lk.queue := by
    rw [(insertWaiter_perm w lk.queue).mem_iff, List.mem_cons]
  rw [← Bool.not_eq_true, LockRec.waitsFor_iff, not_or] at hwaits
  obtain ⟨hq, ht⟩ := hwaits
  have hportsPerm := (insertWaiter_perm w lk.queue).map Waiter.port
  refine ⟨h.holders, ⟨?_, fun hf => absurd hf hfree, insertWaiter_tail htail fun hu => (hupgrade hu).2.2, fun x hx hu => ?_⟩,
    ⟨hvacating, htarget, fun x hx => ?_⟩, hatt1, fun x hx hu => ?_, hatt3, hatt4⟩
  · exact hportsPerm.nodup_iff.mpr (List.nodup_cons.mpr ⟨hq, hports⟩)
  · obtain rfl | hx := (hmem x).mp hx
    · exact ⟨(hupgrade hu).1, (hupgrade hu).2.1⟩
    · exact hup x hx hu
  · obtain ⟨h1, h2, h3⟩ := hplaces x hx
    refine ⟨h1, h2, fun hx' => ?_⟩
    obtain heq | hx' := List.mem_cons.mp (hportsPerm.mem_iff.mp hx')
    · exact ht (by simp [show lk.target = some x from hx, heq])
    · exact h3 hx'
  · obtain rfl | hx := (hmem x).mp hx
    · exact hshared hu
    · exact hatt2 x hx hu

/-- A FREE bound lock starts a handover (R12). -/
theorem LockRec.Sound.handover_sound (h : lk.Sound l) {w : Waiter} (hs : lk.state = .free) (hg : lk.group ≠ none)
    (hw : w.req = .exclusive) (hd : w.deadline = none) :
    ({ lk with state := .handover, target := some w } : LockRec).Sound l := by
  obtain ⟨hatt1, hatt2, hatt3, hatt4⟩ := h.attributes
  have hq := h.queue_of_free hs
  exact {
    holders := ⟨nofun, nofun, fun _ _ => h.holders_of_free hs, h.holders.2.2.2⟩
    queue := by simp [LockRec.QueueFits, hq]
    places := by simp [LockRec.PlacesFit, h.vacatingFrom_eq_none (by simp [hs]), hw, hd, hq]
    attributes := ⟨nofun, hatt2, fun hn => absurd hn hg, hatt4⟩ }

/-- A grant at once steps the generation once (R10, R11, R30). -/
theorem LockRec.Moves.grant {m : Mode} (hs : lk.Sound l → lk.state = .free ∨ lk.state = .shared) (hno : lk.Sound l → ∀ w ∈ lk.queue, w.req ≠ .upgrade)
    (hexcl : m = .exclusive → lk.Sound l → ∀ x ∈ lk.holders, x.port = p)
    (hshared : m = .shared → lk.sharedAllowed = true ∧ lk.group = none) : lk.Moves l (lk.grant m [p]) :=
  ⟨fun h => h.settling.grant_sound (queue := lk.queue) (hs h) (.refl _) (hno h)
      (fun he => ⟨⟨p, rfl⟩, fun x hx => by simpa using hexcl he h x hx⟩) (fun he => ⟨by simp, by simp, hshared he⟩),
    fun _ => LockRec.grant_grants (by simp)⟩

/-! ### Entries and holders that leave -/

/-- An entry leaves the queue (R29). -/
theorem LockRec.Sound.withoutWaiter_sound (h : lk.Sound l) (p : Port) : (lk.withoutWaiter p).Sound l := by
  obtain ⟨hports, hfree, htail, hup⟩ := h.queue
  obtain ⟨hvacating, htarget, hplaces⟩ := h.places
  obtain ⟨hatt1, hatt2, hatt3, hatt4⟩ := h.attributes
  have hsub : (lk.withoutWaiter p).queue.Sublist lk.queue := List.filter_sublist
  have htailSub : (lk.withoutWaiter p).queue.tail.Sublist lk.queue.tail := hsub.tail
  exact {
    holders := h.holders
    queue := ⟨(hsub.map _).nodup hports, fun hf => by simp [LockRec.withoutWaiter, hfree hf], fun w hw => htail w (htailSub.mem hw),
      fun w hw => hup w (hsub.mem hw)⟩
    places := ⟨hvacating, htarget, fun w hw =>
      have ⟨h1, h2, h3⟩ := hplaces w hw
      ⟨h1, h2, fun hq => h3 ((hsub.map _).mem hq)⟩⟩
    attributes := ⟨hatt1, fun w hw => hatt2 w (hsub.mem hw), hatt3, hatt4⟩ }

/-- A bound lock vacates, from a handover or when its last holder has left (R14, R49). -/
theorem LockRec.Settling.vacated_sound (h : lk.Settling l) (hg : lk.group ≠ none) (hholders : lk.holders = [])
    (hno : ∀ w ∈ lk.queue, w.req ≠ .upgrade) (q : Port) :
    ({ lk with state := .vacating, vacatingFrom := some q, target := none } : LockRec).Sound l := by
  obtain ⟨-, hatt2, -, hatt4⟩ := h.attributes
  exact {
    holders := ⟨nofun, nofun, fun _ _ => hholders, h.holders.2.2.2⟩
    queue := ⟨h.ports, nofun, h.tail, fun w hw hu => absurd hu (hno w hw)⟩
    places := by simp [LockRec.PlacesFit]
    attributes := ⟨nofun, hatt2, fun hn => absurd hn hg, hatt4⟩ }

theorem demoteUpgrade_port (ports : List Port) (w : Waiter) : (demoteUpgrade ports w).port = w.port := by
  unfold demoteUpgrade
  split <;> rfl

theorem demoteUpgrade_req_cases (ports : List Port) (w : Waiter) :
    (demoteUpgrade ports w).req = .exclusive ∧ w.req = .upgrade ∧ w.port ∈ ports ∨
      (demoteUpgrade ports w).req = w.req ∧ ¬(w.req = .upgrade ∧ w.port ∈ ports) := by
  unfold demoteUpgrade
  split
  · next h => exact .inl ⟨rfl, h⟩
  · next h => exact .inr ⟨rfl, h⟩

/-- An entry that is an UPGRADE after the demotion was one before, of a port that keeps its holding (R14). -/
theorem upgrade_of_demoteUpgrade {ports : List Port} {w : Waiter} (h : (demoteUpgrade ports w).req = .upgrade) :
    w.req = .upgrade ∧ w.port ∉ ports := by
  obtain ⟨he, -, -⟩ | ⟨he, hnot⟩ := demoteUpgrade_req_cases ports w
  · rw [he] at h
    cases h
  · rw [he] at h
    exact ⟨h, fun hp => hnot ⟨h, hp⟩⟩

/-- The record without the holders of some ports, in a state that fits what is left (R14). -/
theorem LockRec.Sound.withoutHolders_settling (h : lk.Sound l) {ports : List Port} {st : LockState}
    (hst : (lk.withoutHolders ports).holders ≠ [] ∧ st = lk.state ∨
      (lk.withoutHolders ports).holders = [] ∧ st = .free ∧ (lk.state = .exclusive ∨ lk.state = .shared)) :
    ({ lk.withoutHolders ports with state := st } : LockRec).Settling l := by
  obtain ⟨hexcl, hshared, hnone, hgen⟩ := h.holders
  obtain ⟨hports, hfree, htail, hup⟩ := h.queue
  obtain ⟨hvacating, htarget, hplaces⟩ := h.places
  obtain ⟨hatt1, hatt2, hatt3, hatt4⟩ := h.attributes
  have hsub : (lk.withoutHolders ports).holders.Sublist lk.holders := List.filter_sublist
  have hqueue : (lk.withoutHolders ports).queue = lk.queue.map (demoteUpgrade ports) := rfl
  have hqports : (lk.withoutHolders ports).queue.map Waiter.port = lk.queue.map Waiter.port := by
    simp [hqueue, Function.comp_def, demoteUpgrade_port]
  have hplace : st ≠ lk.state → lk.vacatingFrom = none ∧ lk.target = none := fun hne => by
    obtain ⟨-, rfl⟩ | ⟨-, -, hs⟩ := hst
    · exact absurd rfl hne
    · exact ⟨h.vacatingFrom_eq_none (by obtain hs | hs := hs <;> simp [hs]), h.target_eq_none (by obtain hs | hs := hs <;> simp [hs])⟩
  refine ⟨?_, hqports ▸ hports, ?_, ?_, ?_, ?_⟩
  · obtain ⟨hne, rfl⟩ | ⟨hnil, rfl, -⟩ := hst
    · refine ⟨fun he => ⟨?_, fun x hx => (hexcl he).2 x (hsub.mem hx)⟩,
        fun hs => ⟨hne, fun x hx => (hshared hs).2.1 x (hsub.mem hx), (hsub.map _).nodup (hshared hs).2.2⟩,
        fun h1 h2 => by simpa [hnone h1 h2] using hsub, fun x hx => hgen x (hsub.mem hx)⟩
      exact Nat.le_antisymm ((hexcl he).1 ▸ hsub.length_le) (List.length_pos_iff.mpr hne)
    · exact ⟨nofun, nofun, fun _ _ => hnil, fun x hx => hgen x (hsub.mem hx)⟩
  · rw [hqueue, ← List.map_tail]
    intro w hw
    obtain ⟨x, hx, rfl⟩ := List.mem_map.mp hw
    exact fun hu => htail x hx (upgrade_of_demoteUpgrade hu).1
  · intro w hw hu
    rw [hqueue] at hw
    obtain ⟨x, hx, rfl⟩ := List.mem_map.mp hw
    obtain ⟨hxu, hxp⟩ := upgrade_of_demoteUpgrade hu
    obtain ⟨hs, hxh⟩ := hup x hx hxu
    obtain ⟨k, hk, hkp⟩ := List.mem_map.mp hxh
    have hstay : k ∈ (lk.withoutHolders ports).holders := List.mem_filter.mpr ⟨hk, by simpa [hkp] using hxp⟩
    obtain ⟨-, rfl⟩ | ⟨hnil, -⟩ := hst
    · exact ⟨hs, by rw [demoteUpgrade_port, ← hkp]; exact List.mem_map_of_mem hstay⟩
    · rw [hnil] at hstay
      cases hstay
  · by_cases heq : st = lk.state
    · subst heq
      refine ⟨hvacating, htarget, fun w hw => ?_⟩
      rw [hqports]
      exact hplaces w hw
    · obtain ⟨h1, h2⟩ := hplace heq
      obtain ⟨-, rfl⟩ | ⟨-, rfl, -⟩ := hst
      · exact absurd rfl heq
      · exact LockRec.placesFit_of_none h1 h2 nofun nofun
  · refine ⟨fun hs => ?_, fun w hw hr => ?_, fun hg => ?_, hatt4⟩
    · obtain ⟨-, rfl⟩ | ⟨-, rfl, -⟩ := hst
      · exact hatt1 hs
      · cases hs
    · rw [hqueue] at hw
      obtain ⟨x, hx, rfl⟩ := List.mem_map.mp hw
      obtain ⟨he, -, -⟩ | ⟨he, -⟩ := demoteUpgrade_req_cases ports x
      · rw [he] at hr
        cases hr
      · exact hatt2 x hx (he ▸ hr)
    · obtain ⟨-, rfl⟩ | ⟨-, rfl, -⟩ := hst
      · exact hatt3 hg
      · simp

/-- The record after the release path (R14). -/
def LockRec.released (lk : LockRec) (ports : List Port) : LockRec :=
  if (lk.withoutHolders ports).holders = [] then
    match lk.group with
    | none => ({ lk.withoutHolders ports with state := .free } : LockRec).passed
    | some _ => { lk.withoutHolders ports with state := .vacating, vacatingFrom := ports.head?, target := none }
  else (lk.withoutHolders ports).passed

theorem State.lock_vacate (s : State) (l : LockId) (lk : LockRec) (from_ : Option Port) :
    (s.vacate l lk from_).lock l = { lk with state := .vacating, vacatingFrom := from_, target := none } := by
  unfold State.vacate
  rw [State.sendOrder_frame]
  exact (State.lock_setLock s l l _).trans (if_pos rfl)

theorem State.lock_releasePath (s : State) (l : LockId) (ports : List Port) (k : Option Port) :
    (s.releasePath l ports k).lock l = (s.lock l).released ports := by
  unfold LockRec.released
  by_cases hnil : ((s.lock l).withoutHolders ports).holders = []
  · rw [if_pos hnil]
    cases hg : (s.lock l).group with
    | none => rw [State.releasePath_of_unbound k hnil hg, State.lock_grantPass_self, State.lock_setLock, if_pos rfl]
    | some g => rw [State.releasePath_of_bound k hnil hg, State.lock_vacate]
  · rw [if_neg hnil, State.releasePath_of_holders k hnil, State.lock_grantPass_self, State.lock_setLock, if_pos rfl]

/-- The release path leaves a sound record and grants at most once (R14). -/
theorem LockRec.Moves.released {ports : List Port} (hports : ∃ x ∈ lk.holders, x.port ∈ ports) :
    lk.Moves l (lk.released ports) := by
  obtain ⟨x, hx, hxp⟩ := hports
  have hfrom (st : LockState) : lk.HoldersFrom { lk.withoutHolders ports with state := st } :=
    .of_sublist (List.filter_sublist (l := lk.holders))
  have hheld (h : lk.Sound l) : lk.state = .exclusive ∨ lk.state = .shared := by
    by_contra hne
    rw [not_or] at hne
    rw [h.holders_eq_nil hne.1 hne.2] at hx
    cases hx
  unfold LockRec.released
  split
  · next hnil =>
    split
    · exact .passed (fun h => h.withoutHolders_settling (.inr ⟨hnil, rfl, hheld h⟩)) rfl (hfrom .free)
    · next g hg =>
      refine .of_kept (fun h => ?_) rfl (hfrom .vacating)
      have hset := h.withoutHolders_settling (.inr ⟨hnil, rfl, hheld h⟩)
      obtain ⟨q, rest, rfl⟩ := List.exists_cons_of_ne_nil (List.ne_nil_of_mem hxp)
      refine hset.vacated_sound (by simp [LockRec.withoutHolders, hg]) hnil (fun w hw hu => ?_) q
      obtain ⟨hs, -⟩ := hset.upgrade w hw hu
      cases hs
  · next hne => exact .passed (fun h => h.withoutHolders_settling (.inl ⟨hne, rfl⟩)) rfl (hfrom lk.state)

/-- The abort of a handover (R49). -/
theorem LockRec.Moves.aborted {w : Waiter} (hw : lk.target = some w) (q : Port) :
    lk.Moves l { lk with state := .vacating, vacatingFrom := some q, target := none } := by
  refine .of_kept (fun h => ?_) rfl (.refl lk)
  have hs := h.state_of_target hw
  obtain ⟨-, -, hatt3, -⟩ := h.attributes
  refine h.settling.vacated_sound (fun hg => (hatt3 hg).2.1 hs) (h.holders_eq_nil (by simp [hs]) (by simp [hs])) (fun x hx hu => ?_) q
  obtain ⟨hshared, -⟩ := h.settling.upgrade x hx hu
  simp [hs] at hshared

/-! ### DOWNGRADE, the attributes and the binding -/

/-- A DOWNGRADE of the sole EXCLUSIVE holder (R18). -/
theorem LockRec.Sound.downgraded_settling (h : lk.Sound l) {x : Holder} (hx : lk.holderOf p = some x) (hm : x.mode = .exclusive)
    (hallowed : lk.sharedAllowed = true ∧ lk.group = none) : (lk.downgraded p).Settling l := by
  obtain ⟨hmem, rfl⟩ := LockRec.holderOf_eq_some hx
  obtain ⟨hs, hsole⟩ := h.sole_exclusive hmem hm
  obtain ⟨hports, -, htail, hup⟩ := h.queue
  obtain ⟨-, hatt2, -, hatt4⟩ := h.attributes
  have hholders : (lk.downgraded x.port).holders = [{ x with mode := .shared }] := by simp [LockRec.downgraded, hsole]
  have hno : ∀ w ∈ lk.queue, w.req ≠ .upgrade := fun w hw hu => by
    obtain ⟨hsh, -⟩ := hup w hw hu
    simp [hs] at hsh
  exact {
    holders := ⟨nofun, fun _ => by simp [hholders], fun _ h2 => absurd rfl h2, by
      rw [hholders]
      simpa using h.holders.2.2.2 x hmem⟩
    ports := hports
    tail := htail
    upgrade := fun w hw hu => absurd hu (hno w hw)
    places := LockRec.placesFit_of_none (h.vacatingFrom_eq_none (by simp [hs])) (h.target_eq_none (by simp [hs])) nofun nofun
    attributes := ⟨fun _ => hallowed, hatt2, fun _ => by simp [LockRec.downgraded], hatt4⟩ }

theorem LockRec.Moves.downgraded {x : Holder} (hx : lk.holderOf p = some x) (hm : x.mode = .exclusive)
    (hallowed : lk.sharedAllowed = true ∧ lk.group = none) : lk.Moves l (lk.downgraded p).passed := by
  refine .passed (fun h => h.downgraded_settling hx hm hallowed) rfl fun y hy => ?_
  obtain ⟨k, hk, rfl⟩ := List.mem_map.mp hy
  exact ⟨k, hk, by split <;> rfl, by split <;> rfl⟩

/-- SET_LOCK_ATTR (R151, R152). -/
theorem LockRec.Moves.attributes {allowed : Bool} {hold : Word16} (hl : l ≠ 0) (huse : allowed = false → lk.inSharedUse = false) :
    lk.Moves l { lk with sharedAllowed := allowed, holdLimit := hold } := by
  refine .of_kept (fun h => ?_) rfl (.refl lk)
  obtain ⟨hatt1, hatt2, hatt3, -⟩ := h.attributes
  refine ⟨h.holders, h.queue, h.places, fun hs => ⟨?_, (hatt1 hs).2⟩, fun w hw hr => ⟨?_, (hatt2 w hw hr).2⟩, hatt3, fun h0 => absurd h0 hl⟩
  · cases ha : allowed with
    | true => rfl
    | false =>
      have := huse ha
      simp [LockRec.inSharedUse, show lk.state = .shared from hs] at this
  · cases ha : allowed with
    | true => rfl
    | false =>
      have := huse ha
      simp only [LockRec.inSharedUse, Bool.or_eq_false_iff, List.any_eq_false] at this
      exact absurd hr (by simpa using this.2 w hw)

/-- A FREE lock is bound (R76). -/
theorem LockRec.Sound.bound_sound (h : lk.Sound l) (hl : l ≠ 0) (hs : lk.state = .free) (g : GroupId) :
    ({ lk with group := some g } : LockRec).Sound l := by
  have hq := h.queue_of_free hs
  exact {
    holders := h.holders
    queue := h.queue
    places := h.places
    attributes := ⟨fun hsh => by simp [show lk.state = .shared from hsh] at hs, by simp [hq], nofun, fun h0 => absurd h0 hl⟩ }

/-- A FREE or FAULTED lock without waiters is unbound (R77). -/
theorem LockRec.Sound.unbound_sound (h : lk.Sound l) (hs : lk.state = .free ∨ lk.state = .faulted) (hq : lk.queue = []) :
    ({ lk with group := none, state := .free } : LockRec).Sound l := by
  obtain ⟨-, -, -, hatt4⟩ := h.attributes
  have hne {st : LockState} (h1 : st ≠ .free) (h2 : st ≠ .faulted) : lk.state ≠ st := by
    obtain hs | hs := hs <;> rw [hs]
    · exact h1.symm
    · exact h2.symm
  exact {
    holders := ⟨nofun, nofun, fun _ _ => h.holders_eq_nil (hne nofun nofun) (hne nofun nofun), h.holders.2.2.2⟩
    queue := by simp [LockRec.QueueFits, hq]
    places := LockRec.placesFit_of_none (h.vacatingFrom_eq_none (hne nofun nofun)) (h.target_eq_none (hne nofun nofun)) nofun nofun
    attributes := ⟨nofun, by simp [hq], fun _ => by simp, fun h0 => ⟨rfl, (hatt4 h0).2⟩⟩ }

/-! ### The limit claim, the reports, the RESTART and time -/

theorem clearBlocking_port (p : Port) (w : Waiter) : (clearBlocking p w).port = w.port := by
  unfold clearBlocking
  split <;> rfl

theorem clearBlocking_req (p : Port) (w : Waiter) : (clearBlocking p w).req = w.req := by
  unfold clearBlocking
  split <;> rfl

theorem clearBlocking_deadline (p : Port) (w : Waiter) : (clearBlocking p w).deadline = w.deadline := by
  unfold clearBlocking
  split <;> rfl

/-- Entries are rewritten with their ports and modes kept, and the target's deadline too. -/
theorem LockRec.Sound.map_sound (h : lk.Sound l) {f g : Waiter → Waiter} {k : Holder → Holder} (hport : ∀ w, (f w).port = w.port)
    (hreq : ∀ w, (f w).req = w.req) (hgport : ∀ w, (g w).port = w.port) (hgreq : ∀ w, (g w).req = w.req)
    (hgdeadline : ∀ w, (g w).deadline = w.deadline) (hk : ∀ x, (k x).port = x.port ∧ (k x).mode = x.mode ∧ (k x).gen = x.gen) :
    ({ lk with holders := lk.holders.map k, queue := lk.queue.map f, target := lk.target.map g } : LockRec).Sound l := by
  obtain ⟨hexcl, hshared, hnone, hgen⟩ := h.holders
  obtain ⟨hports, hfree, htail, hup⟩ := h.queue
  obtain ⟨hvacating, htarget, hplaces⟩ := h.places
  obtain ⟨hatt1, hatt2, hatt3, hatt4⟩ := h.attributes
  have hqports : (lk.queue.map f).map Waiter.port = lk.queue.map Waiter.port := by simp [Function.comp_def, hport]
  have hhports : (lk.holders.map k).map Holder.port = lk.holders.map Holder.port := by simp [Function.comp_def, fun x => (hk x).1]
  refine ⟨⟨fun hs => ?_, fun hs => ?_, fun h1 h2 => by simp [hnone h1 h2], ?_⟩, ⟨hqports ▸ hports, fun hs => by simp [hfree hs], ?_, ?_⟩,
    ⟨hvacating, by simpa using htarget, ?_⟩, hatt1, ?_, hatt3, hatt4⟩
  · obtain ⟨hlen, hmode⟩ := hexcl hs
    exact ⟨by simpa using hlen, by simpa [fun x => (hk x).2.1] using hmode⟩
  · obtain ⟨hne, hmode, hnodup⟩ := hshared hs
    exact ⟨by simpa using hne, by simpa [fun x => (hk x).2.1] using hmode, hhports ▸ hnodup⟩
  · simpa [fun x => (hk x).2.2] using hgen
  · simpa [← List.map_tail, hreq] using htail
  · intro w hw hu
    obtain ⟨x, hx, rfl⟩ := List.mem_map.mp hw
    rw [hport, hhports]
    exact hup x hx (by rwa [hreq] at hu)
  · intro w hw
    obtain ⟨x, hx, rfl⟩ := Option.map_eq_some_iff.mp hw
    rw [hgreq, hgdeadline, hgport, hqports]
    exact hplaces x hx
  · intro w hw hr
    obtain ⟨x, hx, rfl⟩ := List.mem_map.mp hw
    exact hatt2 x hx (by rwa [hreq] at hr)

/-- A blocking flag is cleared (R42). -/
theorem LockRec.Moves.clearBlocking (l : LockId) (lk : LockRec) (p : Port) :
    lk.Moves l { lk with queue := lk.queue.map (clearBlocking p), target := lk.target.map (clearBlocking p) } := by
  refine .of_kept (fun h => ?_) rfl (.refl lk)
  have hm := h.map_sound (k := id) (clearBlocking_port p) (clearBlocking_req p) (clearBlocking_port p) (clearBlocking_req p)
    (clearBlocking_deadline p) fun _ => ⟨rfl, rfl, rfl⟩
  rwa [List.map_id] at hm

/-- A millisecond passes (R19, R46). -/
theorem LockRec.Moves.tickMs (l : LockId) (lk : LockRec) : lk.Moves l lk.tickMs := by
  refine .of_kept (fun h => ?_) rfl fun x hx => ?_
  · have hm := h.map_sound (f := fun w => { w with deadline := w.deadline.map countDown }) (g := id)
      (k := fun x => { x with hold := x.hold.map countDown }) (fun _ => rfl) (fun _ => rfl) (fun _ => rfl) (fun _ => rfl) (fun _ => rfl)
      fun _ => ⟨rfl, rfl, rfl⟩
    rwa [Option.map_id] at hm
  · obtain ⟨k, hk, rfl⟩ := List.mem_map.mp hx
    exact ⟨k, hk, rfl, rfl⟩

/-- A route clear frees a VACATING or FAULTED lock, and the pass runs (R67). -/
theorem LockRec.Moves.cleared (hs : lk.state = .vacating ∨ lk.state = .faulted) :
    lk.Moves l ({ lk with state := .free, vacatingFrom := none } : LockRec).passed := by
  refine .passed (fun h => ?_) rfl (.refl lk)
  have hne {st : LockState} (h1 : st ≠ .vacating) (h2 : st ≠ .faulted) : lk.state ≠ st := by
    obtain hs | hs := hs <;> rw [hs]
    · exact h1.symm
    · exact h2.symm
  obtain ⟨hports, -, htail, hup⟩ := h.queue
  obtain ⟨-, hatt2, -, hatt4⟩ := h.attributes
  exact {
    holders := ⟨nofun, nofun, fun _ _ => h.holders_eq_nil (hne nofun nofun) (hne nofun nofun), h.holders.2.2.2⟩
    ports := hports
    tail := htail
    upgrade := fun w hw hu => absurd (hup w hw hu).1 (hne nofun nofun)
    places := LockRec.placesFit_of_none rfl (h.target_eq_none (hne nofun nofun)) nofun nofun
    attributes := ⟨nofun, hatt2, fun _ => by simp, hatt4⟩ }

/-- A route made grants the target (R71). -/
theorem LockRec.Moves.made {w : Waiter} (hs : lk.state = .handover) :
    lk.Moves l { lk.grant .exclusive [w.port] with target := none } := by
  refine ⟨fun h => ?_, fun _ => LockRec.grant_grants (lk := lk) (m := .exclusive) (ports := [w.port]) (by simp)⟩
  have hnil := h.holders_eq_nil (by simp [hs]) (by simp [hs])
  have hholders : (lk.grant .exclusive [w.port]).holders = [lk.newHolder .exclusive w.port] := by simp [LockRec.grant, hnil]
  obtain ⟨-, hatt2, -, hatt4⟩ := h.attributes
  have hno : ∀ x ∈ lk.queue, x.req ≠ .upgrade := fun x hx hu => by
    obtain ⟨hsh, -⟩ := h.settling.upgrade x hx hu
    simp [hs] at hsh
  exact {
    holders := ⟨fun _ => by simp [hholders, LockRec.newHolder], nofun, fun h1 _ => absurd rfl h1, by
      simpa [hholders, LockRec.newHolder] using nextGen_ne_zero lk.gen⟩
    queue := h.settling.queueFits (.refl _) hno nofun
    places := LockRec.placesFit_of_none (h.vacatingFrom_eq_none (by simp [hs])) rfl nofun nofun
    attributes := ⟨nofun, hatt2, fun _ => by simp [LockRec.grant, heldState], hatt4⟩ }

/-- A route fault at a bound lock (R74). -/
theorem LockRec.Sound.faulted_sound (h : lk.Sound l) (hg : lk.group ≠ none) :
    ({ lk with state := .faulted, holders := [], vacatingFrom := none, target := none } : LockRec).Sound l := by
  obtain ⟨hports, -, htail, hup⟩ := h.queue
  obtain ⟨hatt1, hatt2, -, hatt4⟩ := h.attributes
  exact {
    holders := by simp [LockRec.HoldersFit]
    queue := ⟨hports, nofun, htail, fun w hw hu => absurd (hatt1 (hup w hw hu).1).2 hg⟩
    places := by simp [LockRec.PlacesFit]
    attributes := ⟨nofun, hatt2, fun hn => absurd hn hg, hatt4⟩ }

/-- The lock table takes the RESTART (R25). -/
theorem LockRec.Moves.atRestart (l : LockId) (lk : LockRec) (select : GroupId → Port) : lk.Moves l (lk.atRestart select) := by
  obtain ⟨hholders, hqueue, htarget, hgen, hallowed, hlimit, hgroup⟩ := lk.atRestart_cleared select
  refine .of_kept (fun h => ?_) hgen (.of_nil hholders)
  obtain ⟨-, -, -, hatt4⟩ := h.attributes
  obtain ⟨hstate, hvacating⟩ : ((lk.atRestart select).state = .free ∨ lk.group ≠ none) ∧
      ((lk.atRestart select).vacatingFrom.isSome = true ↔ (lk.atRestart select).state = .vacating) ∧
      (lk.atRestart select).state ≠ .handover ∧ (lk.atRestart select).state ≠ .exclusive ∧ (lk.atRestart select).state ≠ .shared := by
    obtain ⟨hv, -⟩ := h.places
    unfold LockRec.atRestart
    cases hg : lk.group with
    | none => simp
    | some g => cases hs : lk.state <;> simp_all
  obtain ⟨hv, hnoHandover, hnoExclusive, hnoShared⟩ := hvacating
  exact {
    holders := by simp [LockRec.HoldersFit, hholders, hnoExclusive, hnoShared]
    queue := by simp [LockRec.QueueFits, hqueue]
    places := by simp [LockRec.PlacesFit, htarget, hv, hnoHandover]
    attributes := ⟨fun hs => absurd hs hnoShared, by simp [hqueue], fun hn => by
      rw [hgroup] at hn
      simp [hstate.resolve_right (not_not.mpr hn)], fun h0 => by rw [hgroup, hallowed, hlimit]; exact hatt4 h0⟩ }

end Sys2Proof.Machine
end

section
/-! What an engine does on its own: bus conditions and bytes, the completion of a frame, its response, the stages of a RESTART (R158,
R180 to R192). None of these begins or ends a stretch. -/

namespace Sys2Proof.Machine

/-! ### The moves of an engine -/

/-- The engine changes outside the lock table's reach: it begins no stretch and ends none, no ending reaches it, and it stays sound
(R182). -/
structure Engine.Moves (e e' : Engine) : Prop where
  sound : e.Sound → e'.Sound
  stretched : e'.state = .stretched ↔ e.state = .stretched
  stretchLock : e'.stretchLock = e.stretchLock
  handed : e'.handed = e.handed
  stretchCopy : e'.stretchCopy = e.stretchCopy
  inRange : e.wait.inRange = true → e'.wait.inRange = true
  timer : e.state = .stretched → e'.stretchTimer = e.stretchTimer ∧ e'.limitClaim = e.limitClaim

/-- The requester of a RESTART waits on for its stages (R158). -/
def Engine.KeepsStages (e e' : Engine) : Prop :=
  e.state = .executing → e.wait = .restartStages → e'.state = .executing ∧ e'.wait = .restartStages

/-- What the link of an engine can change: the fields of a transaction, but not while it holds SCL (R180, R183 to R191). -/
structure Engine.LinkMoves (e e' : Engine) : Prop where
  fields : e' =
    { e with
      state := e'.state, addressed := e'.addressed, frame := e'.frame, expected := e'.expected, check := e'.check
      snapshot := e'.snapshot, linkError := e'.linkError, busTimer := e'.busTimer, acked := e'.acked, sent := e'.sent }
  held : e.holdsScl = true → e'.state = e.state
  free : e.holdsScl = false → e'.holdsScl = false
  sound : e.Sound → e'.Sound

section
variable {e e' e'' : Engine}

theorem Engine.Moves.refl (e : Engine) : e.Moves e := ⟨id, .rfl, rfl, rfl, rfl, id, fun _ => ⟨rfl, rfl⟩⟩

theorem Engine.KeepsStages.refl (e : Engine) : e.KeepsStages e := fun h1 h2 => ⟨h1, h2⟩

theorem Engine.LinkMoves.refl (e : Engine) : e.LinkMoves e := ⟨rfl, fun _ => rfl, id, id⟩

theorem Engine.LinkMoves.trans (h : e.LinkMoves e') (h' : e'.LinkMoves e'') : e.LinkMoves e'' where
  fields := h'.fields.trans (by rw [h.fields])
  held hs := by
    have hstate := h.held hs
    have hs' : e'.holdsScl = true := by rw [Engine.holdsScl, hstate]; exact hs
    exact (h'.held hs').trans hstate
  free := h'.free ∘ h.free
  sound := h'.sound ∘ h.sound

theorem Engine.holdsScl_iff : e.holdsScl = true ↔ e.state = .executing ∨ e.state = .stretched := by
  cases hs : e.state <;> simp [Engine.holdsScl, hs]

theorem Engine.LinkMoves.state_iff (h : e.LinkMoves e') {st : EngineState} (hst : st = .executing ∨ st = .stretched) :
    e'.state = st ↔ e.state = st := by
  cases hscl : e.holdsScl with
  | true => rw [h.held hscl]
  | false =>
    have h1 := mt Engine.holdsScl_iff.mpr (Bool.not_eq_true _ ▸ hscl)
    have h2 := mt Engine.holdsScl_iff.mpr (Bool.not_eq_true _ ▸ h.free hscl)
    obtain rfl | rfl := hst <;> tauto

theorem Engine.LinkMoves.moves (h : e.LinkMoves e') : e.Moves e' where
  sound := h.sound
  stretched := h.state_iff (.inr rfl)
  stretchLock := by rw [h.fields]
  handed := by rw [h.fields]
  stretchCopy := by rw [h.fields]
  inRange hw := by rw [h.fields]; exact hw
  timer _ := ⟨by rw [h.fields], by rw [h.fields]⟩

theorem Engine.LinkMoves.keepsStages (h : e.LinkMoves e') : e.KeepsStages e' := fun hs hw =>
  ⟨(h.state_iff (.inl rfl)).mpr hs, by rw [h.fields]; exact hw⟩

/-! ### The link -/

/-- A change of the link's fields that keeps them fitting the state. -/
theorem Engine.LinkMoves.of_fields
    (fields : e' =
      { e with
        state := e'.state, addressed := e'.addressed, frame := e'.frame, expected := e'.expected, check := e'.check
        snapshot := e'.snapshot, linkError := e'.linkError, busTimer := e'.busTimer, acked := e'.acked, sent := e'.sent })
    (h1 : e.state ≠ .executing) (h2 : e.state ≠ .stretched) (h1' : e'.state ≠ .executing) (h2' : e'.state ≠ .stretched)
    (frame : e.Sound → e'.addressed = false → e'.frame = [] ∧ e'.expected = none)
    (addressed : e.Sound → e'.addressed = true → e'.state = .receiving)
    (snapshot : e.Sound → (e'.snapshot.isSome = true ↔ e'.state = .sending))
    (busTimer : e.Sound → e'.state = .idle → e'.busTimer = none) : e.LinkMoves e' where
  fields := fields
  held hs := absurd (Engine.holdsScl_iff.mp hs) (by simp [h1, h2])
  free _ := Engine.holdsScl_eq_false h1' h2'
  sound hs := by
    have hframe := frame hs
    have haddressed := addressed hs
    have hsnapshot := snapshot hs
    have hbus := busTimer hs
    obtain ⟨-, -, -, -, hwait, hdeferred, hlock, htimer, hclaim, habort, hhanded, -⟩ := hs
    rw [fields]
    refine ⟨fun hf => ?_, fun hx => ?_, haddressed, hsnapshot, fun hw => absurd (hwait hw) h1, fun hd => absurd (hdeferred hd).1 h1,
      iff_of_false (fun hl => h2 (hlock.mp hl)) h2', fun ht => absurd (htimer ht) h2, hclaim, fun ha => absurd (habort ha) h2,
      fun hh => absurd (hhanded hh) h2, fun hb => ?_⟩
    · by_contra ha
      exact hf (hframe (by simpa using ha)).1
    · by_contra ha
      simp [(hframe (by simpa using ha)).2] at hx
    · cases hst : e'.state with
      | idle => simp [hbus hst] at hb
      | executing => exact absurd hst h1'
      | stretched => exact absurd hst h2'
      | receiving | sending | ignoring => simp

/-- A sound engine outside a write has no frame, and outside a read no snapshot. -/
theorem Engine.Sound.no_frame (h : e.Sound) (hs : e.state ≠ .receiving) : e.addressed = false ∧ e.frame = [] ∧ e.expected = none :=
  have ha := h.addressed_eq_false hs
  ⟨ha, h.frame_eq_nil ha, h.expected_eq_none ha⟩

theorem Engine.Sound.snapshot_iff (h : e.Sound) : e.snapshot.isSome = true ↔ e.state = .sending := by
  obtain ⟨-, -, -, hsnapshot, -⟩ := h
  exact hsnapshot

theorem Engine.Sound.busTimer_of_idle (h : e.Sound) (hs : e.state = .idle) : e.busTimer = none := by
  obtain ⟨-, -, -, -, -, -, -, -, -, -, -, hbus⟩ := h
  by_contra hne
  simpa [hs] using hbus (Option.isSome_iff_ne_none.mpr hne)

theorem Engine.Sound.addressed_imp (h : e.Sound) : e.addressed = true → e.state = .receiving := by
  obtain ⟨-, -, haddressed, -⟩ := h
  exact haddressed

theorem Engine.takeStart_moves (e : Engine) : e.LinkMoves e.takeStart := by
  cases hs : e.state with
  | executing | stretched => simpa [Engine.takeStart, hs] using Engine.LinkMoves.refl e
  | idle | ignoring =>
    have hstart : e.takeStart = { e with
        state := .receiving, addressed := false, frame := [], expected := none, busTimer := some Config.busTimeout } := by
      simp [Engine.takeStart, hs]
    rw [hstart]
    exact .of_fields rfl (by simp [hs]) (by simp [hs]) nofun nofun (fun _ _ => ⟨rfl, rfl⟩) (fun _ => nofun)
      (fun h => by simp [h.snapshot_eq_none (by simp [hs])]) fun _ => nofun
  | sending =>
    have hstart : e.takeStart = { e with
        state := .receiving, addressed := false, frame := [], expected := none, snapshot := none
        busTimer := some Config.busTimeout } := by
      simp [Engine.takeStart, hs]
    rw [hstart]
    exact .of_fields rfl (by simp [hs]) (by simp [hs]) nofun nofun (fun _ _ => ⟨rfl, rfl⟩) (fun _ => nofun)
      (fun _ => by simp) fun _ => nofun
  | receiving =>
    have hstart : e.takeStart = { e.dropPartialFrame with busTimer := some Config.busTimeout } := by simp [Engine.takeStart, hs]
    rw [hstart]
    exact .of_fields rfl (by simp [hs]) (by simp [hs]) (by simp [Engine.dropPartialFrame, hs]) (by simp [Engine.dropPartialFrame, hs])
      (fun _ _ => ⟨rfl, rfl⟩) (fun _ => nofun)
      (fun h => by simp [Engine.dropPartialFrame, hs, h.snapshot_eq_none (by simp [hs])]) fun _ => by simp [Engine.dropPartialFrame, hs]

theorem Engine.takeStop_moves (e : Engine) : e.LinkMoves e.takeStop := by
  cases hs : e.state with
  | executing | stretched | idle => simpa [Engine.takeStop, hs] using Engine.LinkMoves.refl e
  | ignoring =>
    have hstop : e.takeStop = { e with state := .idle, busTimer := none } := by simp [Engine.takeStop, hs]
    rw [hstop]
    exact .of_fields rfl (by simp [hs]) (by simp [hs]) nofun nofun (fun h _ => (h.no_frame (by simp [hs])).2)
      (fun h ha => by simp [(h.no_frame (by simp [hs])).1] at ha) (fun h => by simp [h.snapshot_eq_none (by simp [hs])]) fun _ _ => rfl
  | sending =>
    have hstop : e.takeStop = { e with state := .idle, snapshot := none, busTimer := none } := by simp [Engine.takeStop, hs]
    rw [hstop]
    exact .of_fields rfl (by simp [hs]) (by simp [hs]) nofun nofun (fun h _ => (h.no_frame (by simp [hs])).2)
      (fun h ha => by simp [(h.no_frame (by simp [hs])).1] at ha) (fun _ => by simp) fun _ _ => rfl
  | receiving =>
    have hstop : e.takeStop = { e.dropPartialFrame with state := .idle, busTimer := none } := by simp [Engine.takeStop, hs]
    rw [hstop]
    exact .of_fields rfl (by simp [hs]) (by simp [hs]) nofun nofun (fun _ _ => ⟨rfl, rfl⟩) (fun _ => nofun)
      (fun h => by simp [Engine.dropPartialFrame, h.snapshot_eq_none (by simp [hs])]) fun _ _ => rfl

theorem Engine.passByte_moves (e : Engine) : e.LinkMoves e.passByte := by
  cases hs : e.state with
  | executing | stretched | receiving | sending => simpa [Engine.passByte, hs] using Engine.LinkMoves.refl e
  | idle =>
    have hpass : e.passByte = { e with acked := false } := by simp [Engine.passByte, hs]
    rw [hpass]
    exact .of_fields rfl (by simp [hs]) (by simp [hs]) (by simp [hs]) (by simp [hs]) (fun h _ => (h.no_frame (by simp [hs])).2)
      (fun h => h.addressed_imp) (fun h => h.snapshot_iff) fun h => h.busTimer_of_idle
  | ignoring =>
    have hpass : e.passByte = { e with acked := false, busTimer := some Config.busTimeout } := by simp [Engine.passByte, hs]
    rw [hpass]
    exact .of_fields rfl (by simp [hs]) (by simp [hs]) (by simp [hs]) (by simp [hs]) (fun h _ => (h.no_frame (by simp [hs])).2)
      (fun h => h.addressed_imp) (fun h => h.snapshot_iff) fun _ => by simp [hs]

theorem Engine.takeAddress_moves (e : Engine) (b : Byte) : e.LinkMoves (e.takeAddress b) := by
  unfold Engine.takeAddress
  split
  · next h =>
    obtain ⟨hs, ha⟩ := h
    split
    · exact .of_fields rfl (by simp [hs]) (by simp [hs]) (by simp [hs]) (by simp [hs]) (fun _ => nofun) (fun _ _ => hs)
        (fun h => h.snapshot_iff) fun _ => by simp [hs]
    · split
      · exact .of_fields rfl (by simp [hs]) (by simp [hs]) nofun nofun (fun h _ => ⟨h.frame_eq_nil ha, h.expected_eq_none ha⟩)
          (fun _ ha' => by simp [ha] at ha') (fun _ => by simp) fun _ => nofun
      · exact .of_fields rfl (by simp [hs]) (by simp [hs]) nofun nofun (fun h _ => ⟨h.frame_eq_nil ha, h.expected_eq_none ha⟩)
          (fun _ ha' => by simp [ha] at ha') (fun h => by simp [h.snapshot_eq_none (by simp [hs])]) fun _ => nofun
  · exact e.passByte_moves

theorem Engine.acceptByte_moves (hs : e.state = .receiving) (ha : e.addressed = true) (b : Byte) (x : Option Nat) :
    e.LinkMoves (e.acceptByte b x) :=
  .of_fields rfl (by simp [hs]) (by simp [hs]) (by simp [Engine.acceptByte, hs]) (by simp [Engine.acceptByte, hs])
    (fun _ hf => by simp [Engine.acceptByte, ha] at hf) (fun _ _ => hs) (fun h => h.snapshot_iff) fun _ hi => by
      simp [Engine.acceptByte, hs] at hi

theorem Engine.refuseByte_moves (hs : e.state = .receiving) : e.LinkMoves e.refuseByte :=
  .of_fields rfl (by simp [hs]) (by simp [hs]) nofun nofun (fun _ _ => ⟨rfl, rfl⟩) (fun _ => nofun)
    (fun h => by simp [Engine.refuseByte, h.snapshot_eq_none (by simp [hs])]) fun _ => nofun

theorem Engine.takeFrameByte_moves (hs : e.state = .receiving) (ha : e.addressed = true) (b : Byte) :
    e.LinkMoves (e.takeFrameByte b) := by
  have haccept := Engine.acceptByte_moves hs ha b
  have hrefuse := Engine.refuseByte_moves hs
  unfold Engine.takeFrameByte
  repeat' split
  all_goals first | exact hrefuse | exact haccept _

theorem Engine.takeByte_moves (e : Engine) (b : Byte) : e.LinkMoves (e.takeByte b) := by
  unfold Engine.takeByte
  split
  · next h => exact Engine.takeFrameByte_moves h.1 h.2 b
  · exact e.takeAddress_moves b

theorem Engine.takeBytes_moves (e : Engine) (bytes : List Byte) : e.LinkMoves (e.takeBytes bytes) := by
  induction bytes generalizing e with
  | nil => exact .refl e
  | cons b bytes ih =>
    rw [Engine.takeBytes_cons]
    split
    · exact .refl e
    · exact (e.takeByte_moves b).trans (ih _)

theorem Engine.openWrite_moves (e : Engine) : e.LinkMoves e.openWrite := by
  unfold Engine.openWrite
  split
  · exact .refl e
  · exact e.takeStart_moves.trans (Engine.takeAddress_moves _ _)

theorem Engine.openFrame_moves (e : Engine) (bytes : List Byte) : e.LinkMoves (e.openFrame bytes) := by
  unfold Engine.openFrame
  split
  · exact .refl e
  · exact e.takeStart_moves.trans (Engine.takeAddress_moves _ _)

theorem Engine.sendByte_moves (h1 : e.state ≠ .executing) (h2 : e.state ≠ .stretched) : e.LinkMoves e.sendByte := by
  have hframe (h : e.Sound) (ha : e.addressed = false) : e.frame = [] ∧ e.expected = none := ⟨h.frame_eq_nil ha, h.expected_eq_none ha⟩
  unfold Engine.sendByte
  split
  · next r i hsnap =>
    exact .of_fields rfl h1 h2 h1 h2 hframe (fun h => h.addressed_imp) (fun h => by simpa [hsnap] using h.snapshot_iff) fun h hi => by
      have := h.snapshot_iff.mp (by simp [hsnap])
      simp [show e.state = .idle from hi] at this
  · split
    · next hs =>
      exact .of_fields rfl h1 h2 h1 h2 hframe (fun h => h.addressed_imp) (fun h => h.snapshot_iff) fun _ hi => by
        simp [show e.state = .idle from hi] at hs
    · exact .of_fields rfl h1 h2 h1 h2 hframe (fun h => h.addressed_imp) (fun h => h.snapshot_iff) fun h => h.busTimer_of_idle
    all_goals exact .refl e

theorem Engine.sendBytes_moves (hscl : e.holdsScl = false) (n : Nat) : e.LinkMoves (e.sendBytes n) := by
  induction n generalizing e with
  | zero => exact .refl e
  | succ n ih =>
    have hnot := mt Engine.holdsScl_iff.mpr (Bool.not_eq_true _ ▸ hscl)
    rw [not_or] at hnot
    have hsend := Engine.sendByte_moves hnot.1 hnot.2
    exact hsend.trans (ih (hsend.free hscl))

theorem Engine.openRead_moves (e : Engine) : e.LinkMoves e.openRead := by
  unfold Engine.openRead
  split
  · exact .refl e
  · exact e.takeStart_moves.trans (Engine.takeAddress_moves _ _)

theorem Engine.endRead_moves (e : Engine) : e.LinkMoves e.endRead := by
  unfold Engine.endRead
  split
  · next hs =>
    exact .of_fields rfl (by simp [hs]) (by simp [hs]) nofun nofun (fun h _ => (h.no_frame (by simp [hs])).2)
      (fun h ha => by simp [(h.no_frame (by simp [hs])).1] at ha) (fun _ => by simp) fun _ => nofun
  · exact .refl e

theorem Engine.takeTimeout_moves (e : Engine) : e.LinkMoves e.takeTimeout := by
  cases hs : e.state with
  | executing | stretched | idle => simpa [Engine.takeTimeout, hs] using Engine.LinkMoves.refl e
  | receiving =>
    have htimeout : e.takeTimeout = { e with
        state := .idle, addressed := false, frame := [], expected := none, linkError := true, busTimer := none } := by
      simp [Engine.takeTimeout, hs]
    rw [htimeout]
    exact .of_fields rfl (by simp [hs]) (by simp [hs]) nofun nofun (fun _ _ => ⟨rfl, rfl⟩) (fun _ => nofun)
      (fun h => by simp [h.snapshot_eq_none (by simp [hs])]) fun _ _ => rfl
  | sending =>
    have htimeout : e.takeTimeout = { e with state := .idle, snapshot := none, linkError := true, busTimer := none } := by
      simp [Engine.takeTimeout, hs]
    rw [htimeout]
    exact .of_fields rfl (by simp [hs]) (by simp [hs]) nofun nofun (fun h _ => (h.no_frame (by simp [hs])).2)
      (fun h ha => by simp [(h.no_frame (by simp [hs])).1] at ha) (fun _ => by simp) fun _ _ => rfl
  | ignoring =>
    have htimeout : e.takeTimeout = { e with state := .idle, busTimer := none } := by simp [Engine.takeTimeout, hs]
    rw [htimeout]
    exact .of_fields rfl (by simp [hs]) (by simp [hs]) nofun nofun (fun h _ => (h.no_frame (by simp [hs])).2)
      (fun h ha => by simp [(h.no_frame (by simp [hs])).1] at ha) (fun h => by simp [h.snapshot_eq_none (by simp [hs])]) fun _ _ => rfl

/-! ### A frame in EXECUTING -/

/-- The START of a frame leaves an engine that can receive in its write (R184). -/
theorem Engine.openFrame_state (h1 : e.state ≠ .executing) (h2 : e.state ≠ .stretched) (bytes : List Byte) :
    (e.openFrame bytes).state = .receiving := by
  unfold Engine.openFrame
  split
  · next h => exact h.1
  · have hstart : e.takeStart.state = .receiving ∧ e.takeStart.addressed = false ∧ e.takeStart.strap = e.strap := by
      cases hs : e.state <;> simp_all [Engine.takeStart, Engine.dropPartialFrame]
    rw [Engine.takeAddress, if_pos ⟨hstart.1, hstart.2.1⟩, if_pos (by rw [hstart.2.2])]
    exact hstart.1

/-- A frame is complete (R185). -/
theorem Engine.completeFrame_moves (hs : e.state = .receiving) (seq : Byte) :
    e.Moves (e.completeFrame seq) ∧ e.KeepsStages (e.completeFrame seq) := by
  refine ⟨⟨fun h => ?_, by simp [Engine.completeFrame, hs], rfl, rfl, rfl, fun _ => rfl, by simp [hs]⟩, fun h => by simp [hs] at h⟩
  have hsnap := h.snapshot_eq_none (by simp [hs])
  obtain ⟨-, -, -, -, -, hdeferred, hlock, htimer, hclaim, habort, hhanded, -⟩ := h
  have hdef : e.stageDeferred = false := by
    by_contra hd
    simpa [hs] using hdeferred (by simpa using hd)
  exact ⟨by simp [Engine.completeFrame], by simp [Engine.completeFrame], by simp [Engine.completeFrame],
    by simp [Engine.completeFrame, hsnap], by simp [Engine.completeFrame], by simp [Engine.completeFrame, hdef],
    by simpa [Engine.completeFrame, hs] using hlock, by simpa [Engine.completeFrame, hs] using htimer, hclaim,
    by simpa [Engine.completeFrame, hs] using habort, by simpa [Engine.completeFrame, hs] using hhanded, by simp [Engine.completeFrame]⟩

/-- The memory, the record and the link-error flag of a frame in EXECUTING (R103, R165). -/
theorem Engine.setRecord_moves (m : Option (Byte × Byte)) (r : Record) (x : Bool) :
    e.Moves { e with memory := m, resp := r, linkError := x } ∧ e.KeepsStages { e with memory := m, resp := r, linkError := x } :=
  ⟨⟨id, .rfl, rfl, rfl, rfl, id, fun _ => ⟨rfl, rfl⟩⟩, fun h1 h2 => ⟨h1, h2⟩⟩

/-- The fields of an engine that has left EXECUTING. -/
theorem Engine.leaveExecuting_eq (e : Engine) :
    ∃ m r, e.leaveExecuting = { e.freed with stageDeferred := false, memory := m, resp := r } := by
  cases hd : e.stageDeferred with
  | false => exact ⟨e.memory, e.resp, by simp [Engine.leaveExecuting, Engine.freed, hd, Config.busTimeout]⟩
  | true => exact ⟨none, Record.restarted, by simp [Engine.leaveExecuting, Engine.freed, hd, Engine.takeFirstStage, Config.busTimeout]⟩

/-- The engine leaves EXECUTING (R186). -/
theorem Engine.leaveExecuting_moves (hs : e.state = .executing) : e.Moves e.leaveExecuting := by
  obtain ⟨m, r, heq⟩ := e.leaveExecuting_eq
  rw [heq]
  refine ⟨fun h => ?_, by simp [Engine.freed, hs], rfl, rfl, rfl, fun _ => rfl, by simp [hs]⟩
  obtain ⟨ha, hframe, hexpected⟩ := h.no_frame (by simp [hs])
  have hsnap := h.snapshot_eq_none (by simp [hs])
  obtain ⟨-, -, -, -, -, -, hlock, htimer, hclaim, habort, hhanded, -⟩ := h
  exact ⟨by simp [Engine.freed, hframe], by simp [Engine.freed, hexpected], by simp [Engine.freed, ha], by simp [Engine.freed, hsnap],
    by simp [Engine.freed], by simp, by simpa [Engine.freed, hs] using hlock, by simpa [Engine.freed, hs] using htimer, hclaim,
    by simpa [Engine.freed, hs] using habort, by simpa [Engine.freed, hs] using hhanded, by simp [Engine.freed]⟩

/-- A frame is answered (R170, R186). -/
theorem Engine.respond_moves (hs : e.state = .executing) (st : Status) (data : List Byte) : e.Moves (e.respond st data) := by
  have h := Engine.leaveExecuting_moves (e := { e with resp := { status := st, echo := e.execSeq, data := data } }) hs
  exact ⟨h.sound, h.stretched, h.stretchLock, h.handed, h.stretchCopy, h.inRange, h.timer⟩

/-- The first stage of a RESTART from another port (R158). -/
theorem Engine.takeFirstStage_moves (e : Engine) : e.Moves e.takeFirstStage ∧ e.KeepsStages e.takeFirstStage := by
  have hdefer (hs : e.state = .executing) (hw : e.wait.defersStage = true) (hne : e.wait ≠ .restartStages) :
      e.Moves { e with stageDeferred := true } ∧ e.KeepsStages { e with stageDeferred := true } := by
    refine ⟨⟨fun h => ?_, .rfl, rfl, rfl, rfl, id, fun _ => ⟨rfl, rfl⟩⟩, fun _ h => absurd h hne⟩
    obtain ⟨h1, h2, h3, h4, h5, -, h6⟩ := h
    exact ⟨h1, h2, h3, h4, h5, fun _ => ⟨hs, hw⟩, h6⟩
  unfold Engine.takeFirstStage
  split
  · next hs =>
    refine ⟨⟨fun h => ?_, .rfl, rfl, rfl, rfl, id, fun _ => ⟨rfl, rfl⟩⟩, fun h => by simp [hs] at h⟩
    obtain ⟨h1, h2, h3, h4, h5, h6, h7, h8, h9, -, h10, h11⟩ := h
    exact ⟨h1, h2, h3, h4, h5, h6, h7, h8, h9, fun _ => hs, h10, h11⟩
  · next hs hw =>
    refine ⟨⟨fun h => ?_, .rfl, rfl, rfl, rfl, fun _ => rfl, fun _ => ⟨rfl, rfl⟩⟩, fun _ h => by simp [hw] at h⟩
    obtain ⟨h1, h2, h3, h4, -, hdeferred, h6⟩ := h
    refine ⟨h1, h2, h3, h4, fun _ => hs, fun hd => ?_, h6⟩
    obtain ⟨-, hdef⟩ := hdeferred hd
    simp [hw, ExecWait.defersStage] at hdef
  · next hs hw => exact hdefer hs (by simp [hw, ExecWait.defersStage]) (by simp [hw])
  · next hs hw => exact hdefer hs (by simp [hw, ExecWait.defersStage]) (by simp [hw])
  · exact e.setRecord_moves none Record.restarted e.linkError

/-- The stretch timer has run out (R188). -/
theorem Engine.Sound.stretchLimit (h : e.Sound) : ({ e with stretchTimer := none, limitClaim := e.stretchLock } : Engine).Sound := by
  obtain ⟨h1, h2, h3, h4, h5, h6, hlock, -, -, habort, hhanded, hbus⟩ := h
  exact ⟨h1, h2, h3, h4, h5, h6, hlock, nofun, fun _ => rfl, habort, hhanded, hbus⟩

/-- A limit claim has been taken at the lock (R42). -/
theorem Engine.Sound.claimTaken (h : e.Sound) : ({ e with limitClaim := none } : Engine).Sound := by
  obtain ⟨h1, h2, h3, h4, h5, h6, hlock, htimer, -, habort, hhanded, hbus⟩ := h
  exact ⟨h1, h2, h3, h4, h5, h6, hlock, htimer, nofun, habort, hhanded, hbus⟩

/-- An ending has been stored (R188). -/
theorem Engine.Sound.storeEnding (h : e.Sound) (hs : e.state = .stretched) (x : Ending) : (e.storeEnding x).Sound := by
  obtain ⟨ha, hframe, hexpected⟩ := h.no_frame (by simp [hs])
  have hsnap := h.snapshot_eq_none (by simp [hs])
  obtain ⟨-, -, -, -, hwait, hdeferred, -, -, -, -, -, -⟩ := h
  have hw : e.wait = .nothing := by
    by_contra hne
    simpa [hs] using hwait hne
  have hd : e.stageDeferred = false := by
    by_contra hne
    simpa [hs] using hdeferred (by simpa using hne)
  simp [Engine.Sound, Engine.storeEnding, ha, hframe, hexpected, hsnap, hw, hd]

/-- An ending is handed to a stretched engine (R40 to R44). -/
theorem Engine.Sound.hand (h : e.Sound) (hs : e.state = .stretched) (x : Ending) : (e.hand x).Sound := by
  obtain ⟨h1, h2, h3, h4, h5, h6, hlock, htimer, hclaim, habort, -, hbus⟩ := h
  exact ⟨h1, h2, h3, h4, h5, h6, hlock, htimer, hclaim, habort, fun _ => hs, hbus⟩

/-- A stretch begins (R187). -/
theorem Engine.Sound.beginStretch (h : e.Sound) (hs : e.state = .executing) (hw : e.wait = .nothing) (l : LockId) :
    (e.beginStretch l).Sound := by
  obtain ⟨ha, hframe, hexpected⟩ := h.no_frame (by simp [hs])
  have hsnap := h.snapshot_eq_none (by simp [hs])
  obtain ⟨-, -, -, -, -, hdeferred, -, -, -, -, -, hbus⟩ := h
  have hd : e.stageDeferred = false := by
    by_contra hne
    simpa [hw, ExecWait.defersStage] using hdeferred (by simpa using hne)
  have hb : e.busTimer = none := by
    by_contra hne
    simpa [hs] using hbus (Option.isSome_iff_ne_none.mpr hne)
  simp [Engine.Sound, Engine.beginStretch, ha, hframe, hexpected, hsnap, hd, hb]

end

end Sys2Proof.Machine
end

section
/-! The pool under the message block's operations: every cell keeps as many references as queues name it (R107, R114, R120). -/

namespace Sys2Proof.Machine

variable {s t : State} {p : Port} {c : CellId}

/-- A change of the message block: cells, inbound queues and the receipts it posts. -/
def State.MessageChange (s t : State) : Prop := t = { s with cells := t.cells, inbounds := t.inbounds, messagePosts := t.messagePosts }

theorem State.MessageChange.notices (h : s.MessageChange t) (q : Port) : t.noticeQueue q = s.noticeQueue q := by rw [h]; rfl
theorem State.MessageChange.engine (h : s.MessageChange t) (q : Port) : t.engine q = s.engine q := by rw [h]; rfl
theorem State.MessageChange.limit (h : s.MessageChange t) (q : Port) : t.limit q = s.limit q := by rw [h]; rfl
theorem State.MessageChange.session (h : s.MessageChange t) (q : Port) : t.session q = s.session q := by rw [h]; rfl

theorem mem_allPorts (q : Port) : q ∈ allPorts := List.mem_finRange q

/-- The queue of one port and the queues of the others name a cell. -/
theorem State.namings_eq (s : State) (p : Port) (c : CellId) :
    s.namings c =
      (allPorts.erase p).countP (fun q => decide (c ∈ (s.inbound q).queue)) + if c ∈ (s.inbound p).queue then 1 else 0 := by
  rw [State.namings, (List.perm_cons_erase (mem_allPorts p)).countP_eq, List.countP_cons]
  simp

/-- The queues of the other ports name a cell as before. -/
theorem countP_erase_congr {f g : Port → Bool} (h : ∀ q, q ≠ p → f q = g q) :
    (allPorts.erase p).countP f = (allPorts.erase p).countP g := by
  refine List.countP_congr fun q hq => ?_
  have hne : q ≠ p := (List.Nodup.mem_erase_iff (List.nodup_finRange 4)).mp hq |>.1
  rw [h q hne]

theorem Cell.letGo_eq_some {x y : Cell} (h : x.letGo = some y) : 1 < x.refs ∧ y = { x with refs := x.refs - 1 } := by
  unfold Cell.letGo at h
  split at h
  · cases h
  · next hr => exact ⟨by omega, (Option.some.inj h).symm⟩

theorem Cell.letGo_eq_none {x : Cell} (h : x.letGo = none) : x.refs ≤ 1 := by
  unfold Cell.letGo at h
  split at h
  · assumption
  · cases h

/-- Port `p` lets go of some cells that its queue named (R107). -/
theorem State.PoolSound.letGo {gone : List CellId} (h : s.PoolSound) (hframe : s.MessageChange t)
    (hgone : ∀ c ∈ gone, c ∈ (s.inbound p).queue)
    (hcell : ∀ c, t.cell c = if c ∈ gone then (s.cell c).bind Cell.letGo else s.cell c)
    (hself : t.inbound p = { s.inbound p with queue := (t.inbound p).queue })
    (hqueue : (t.inbound p).queue.Sublist (s.inbound p).queue)
    (hmem : ∀ c, c ∈ (t.inbound p).queue ↔ c ∈ (s.inbound p).queue ∧ c ∉ gone)
    (hother : ∀ q, q ≠ p → t.inbound q = s.inbound q) : t.PoolSound := by
  obtain ⟨hcells, hqueues⟩ := h
  have hsub (q : Port) : (t.inbound q).queue.Sublist (s.inbound q).queue := by
    by_cases hq : q = p
    · exact hq ▸ hqueue
    · rw [hother q hq]
  have hnamings (c : CellId) : s.namings c = t.namings c + if c ∈ gone then 1 else 0 := by
    have hrest : (allPorts.erase p).countP (fun q => decide (c ∈ (s.inbound q).queue)) =
        (allPorts.erase p).countP (fun q => decide (c ∈ (t.inbound q).queue)) :=
      countP_erase_congr fun q hq => by rw [hother q hq]
    rw [State.namings_eq s p, State.namings_eq t p, hrest]
    by_cases hg : c ∈ gone
    · simp [hg, hgone c hg, hmem]
    · simp [hg, hmem]
  refine ⟨fun c => ⟨fun hc => ?_, fun x hx => ?_⟩, fun q => ?_⟩
  · obtain ⟨hfree, huse⟩ := hcells c
    have hn := hnamings c
    rw [hcell] at hc
    split at hc
    · next hg =>
      cases hx : s.cell c with
      | none => rw [hfree hx] at hn; omega
      | some x =>
        rw [hx, Option.bind_some] at hc
        obtain ⟨h1, -, h3, -⟩ := huse x hx
        have := Cell.letGo_eq_none hc
        rw [if_pos hg] at hn
        omega
    · next hg => rw [hfree hc] at hn; omega
  · obtain ⟨-, huse⟩ := hcells c
    have hn := hnamings c
    have hx' : t.cell c = some x := hx
    rw [hcell] at hx'
    split at hx'
    · next hg =>
      obtain ⟨y, hy, hyx⟩ := Option.bind_eq_some_iff.mp hx'
      obtain ⟨h1, h2, h3, h4, h5⟩ := huse y hy
      obtain ⟨hr, rfl⟩ := Cell.letGo_eq_some hyx
      rw [if_pos hg] at hn
      exact ⟨by simp only; omega, by simp only; omega, by simp only; omega, h4, fun hin => h5 ((hsub y.source).mem hin)⟩
    · next hg =>
      obtain ⟨h1, h2, h3, h4, h5⟩ := huse x hx'
      rw [if_neg hg] at hn
      exact ⟨h1, h2, by omega, h4, fun hin => h5 ((hsub x.source).mem hin)⟩
  · obtain ⟨h1, h2, h3, h4, h5, h6⟩ := hqueues q
    have hlimits : (t.inbound q).quota = (s.inbound q).quota ∧ (t.inbound q).sendCap = (s.inbound q).sendCap := by
      by_cases hq : q = p
      · rw [hq, hself]
        exact ⟨rfl, rfl⟩
      · rw [hother q hq]
        exact ⟨rfl, rfl⟩
    rw [State.QueuesFit, hframe.notices, hframe.engine, hframe.limit, hlimits.1, hlimits.2]
    exact ⟨(hsub q).nodup h1, (hsub q).length_le.trans h2, h3, h4, h5, h6⟩

/-- TAKE lets go of the oldest reference (R116). -/
theorem State.PoolSound.take (h : s.PoolSound) {rest : List CellId} (hq : (s.inbound p).queue = c :: rest)
    (outcome : ReceiptOutcome) (k : Option Port) :
    ((s.setInbound p { s.inbound p with queue := rest }).release p c outcome k).PoolSound := by
  obtain ⟨x, hx⟩ := h.cell_of_named (c := c) (q := p) (by simp [hq])
  obtain ⟨hnodup, -⟩ := h.2 p
  rw [hq, List.nodup_cons] at hnodup
  rw [State.release_of_cell (s := s.setInbound p { s.inbound p with queue := rest }) hx]
  have hin (q : Port) (posts : List Post) :
      ({ (s.setInbound p { s.inbound p with queue := rest }).setCell c x.letGo with messagePosts := posts } : State).inbound q =
        (s.setInbound p { s.inbound p with queue := rest }).inbound q := rfl
  refine h.letGo (p := p) (gone := [c]) rfl (by simp [hq]) (fun d => ?_) ?_ ?_ (fun d => ?_) fun q hqp => ?_
  · refine (State.cell_setCell _ c d x.letGo).trans ?_
    by_cases hd : c = d
    · subst hd
      simp [hx]
    · simp [hd, Ne.symm hd]
  · rw [hin, State.inbound_setInbound, if_pos rfl]
  · rw [hin, State.inbound_setInbound, if_pos rfl, hq]
    exact List.sublist_cons_self ..
  · rw [hin, State.inbound_setInbound, if_pos rfl, hq]
    by_cases hd : d = c
    · subst hd
      simp [hnodup.1]
    · simp [hd]
  · rw [hin, State.inbound_setInbound, if_neg (Ne.symm hqp)]

/-- The flush lets go of every reference (R120). -/
theorem State.PoolSound.flushQueue (h : s.PoolSound) (p : Port) (k : Option Port) : (s.flushQueue p k).PoolSound := by
  obtain ⟨hnodup, -⟩ := h.2 p
  have hcells := (State.releaseAll_eq (s := s.setInbound p { s.inbound p with queue := [] }) (p := p) k hnodup
    fun c hc => h.cell_of_named hc).2
  have hin (q : Port) : (s.flushQueue p k).inbound q = (s.setInbound p { s.inbound p with queue := [] }).inbound q := by
    rw [State.flushQueue, State.releaseAll_frame]
    rfl
  have hframe : s.MessageChange (s.flushQueue p k) := State.flushQueue_frame s p k
  refine h.letGo (p := p) (gone := (s.inbound p).queue) hframe (fun c hc => hc) hcells ?_ ?_ (fun d => ?_) fun q hqp => ?_
  · simp [hin]
  · simp [hin]
  · simp [hin]
  · rw [hin, State.inbound_setInbound, if_neg (Ne.symm hqp)]

/-- A SEND fills a free cell and appends one reference for each destination (R114). -/
theorem State.PoolSound.send (h : s.PoolSound) {dests : List Port} (hfree : s.cell c = none) (hnodup : dests.Nodup)
    (hp : p ∉ dests) (hne : dests ≠ []) (hroom : ∀ q ∈ dests, (s.inbound q).queue.length < (s.inbound q).quota.toNat)
    {number : Word16} {x : Cell} (hrefs : x.refs = dests.length) (hlen : x.payload.length ≤ 16) (hsource : x.source = p) :
    (((s.setInbound p { s.inbound p with number := number }).setCell c (some x)).appendReferences c dests).PoolSound := by
  set u := (s.setInbound p { s.inbound p with number := number }).setCell c (some x) with hu
  obtain ⟨hcells, hqueues⟩ := h
  have hmsg : s.MessageChange (u.appendReferences c dests) := by
    rw [State.appendReferences_frame]
    rfl
  have hcell (d : CellId) : (u.appendReferences c dests).cell d = if c = d then some x else s.cell d := by
    rw [State.appendReferences_frame]
    exact State.cell_setCell _ c d _
  have hin (q : Port) : (u.appendReferences c dests).inbound q =
      { u.inbound q with queue := if q ∈ dests then (s.inbound q).queue ++ [c] else (s.inbound q).queue } := by
    rw [State.inbound_appendReferences hnodup]
    by_cases hq : p = q <;> simp [hu, hq]
  have hqueue (q : Port) : ((u.appendReferences c dests).inbound q).queue =
      if q ∈ dests then (s.inbound q).queue ++ [c] else (s.inbound q).queue := by rw [hin]
  have hnot (q : Port) : c ∉ (s.inbound q).queue := by
    have h0 := List.countP_eq_zero.mp ((hcells c).1 hfree) q (mem_allPorts q)
    simpa using h0
  have hmemOther (d : CellId) (hd : c ≠ d) (q : Port) : d ∈ ((u.appendReferences c dests).inbound q).queue ↔ d ∈ (s.inbound q).queue := by
    rw [hqueue]
    split <;> simp [Ne.symm hd]
  have hmemSelf (q : Port) : c ∈ ((u.appendReferences c dests).inbound q).queue ↔ q ∈ dests := by
    rw [hqueue]
    split <;> simp_all
  have hnamings : (u.appendReferences c dests).namings c = dests.length := by
    rw [State.namings, List.countP_eq_length_filter]
    refine List.Perm.length_eq ((List.perm_ext_iff_of_nodup ((List.nodup_finRange 4).filter _) hnodup).mpr fun q => ?_)
    simp [hmemSelf]
  refine ⟨fun d => ?_, fun q => ?_⟩
  · by_cases hd : c = d
    · subst hd
      rw [State.CellFits, hcell, if_pos rfl]
      refine ⟨nofun, fun y hy => ?_⟩
      obtain rfl := Option.some.inj (show some x = some y from hy)
      have hthree : (p :: dests).length ≤ 4 := length_le_four (List.nodup_cons.mpr ⟨hp, hnodup⟩)
      have hone := List.length_pos_iff.mpr hne
      simp only [List.length_cons] at hthree
      exact ⟨by omega, by omega, by omega, hlen, by rw [hmemSelf, hsource]; exact hp⟩
    · have hn : (u.appendReferences c dests).namings d = s.namings d := by
        unfold State.namings
        exact List.countP_congr fun q _ => by simp [hmemOther d hd q]
      rw [State.CellFits, hcell, if_neg hd, hn]
      obtain ⟨h1, h2⟩ := hcells d
      refine ⟨h1, fun y hy => ?_⟩
      obtain ⟨ha, hb, hc', hd', he⟩ := h2 y hy
      exact ⟨ha, hb, hc', hd', by rwa [hmemOther d hd]⟩
  · obtain ⟨h1, h2, h3, h4, h5, h6⟩ := hqueues q
    have hlimits : ((u.appendReferences c dests).inbound q).quota = (s.inbound q).quota ∧
        ((u.appendReferences c dests).inbound q).sendCap = (s.inbound q).sendCap := by
      rw [hin]
      by_cases hq : p = q <;> simp [hu, hq]
    rw [State.QueuesFit, hmsg.notices, hmsg.engine, hmsg.limit, hlimits.1, hlimits.2, hqueue]
    refine ⟨?_, ?_, h3, h4, h5, h6⟩
    · split
      · exact List.nodup_append'.mpr ⟨h1, by simp, by simpa using hnot q⟩
      · exact h1
    · split
      · next hq =>
        have := hroom q hq
        simp only [List.length_append, List.length_singleton]
        omega
      · exact h2

/-- New limits of a port (R156). -/
theorem State.PoolSound.takeLimits (h : s.PoolSound) {q : Port} {quota sendCap stretch : Byte}
    (hrange : limitsInRange quota sendCap stretch) :
    (s.setInbound q { s.inbound q with quota := quota, sendCap := sendCap }).PoolSound := by
  obtain ⟨hcells, hqueues⟩ := h
  have hqueue (r : Port) : ((s.setInbound q { s.inbound q with quota := quota, sendCap := sendCap }).inbound r).queue =
      (s.inbound r).queue := by
    by_cases hr : q = r <;> simp [hr]
  have hnamings (c : CellId) : (s.setInbound q { s.inbound q with quota := quota, sendCap := sendCap }).namings c = s.namings c := by
    simp only [State.namings, hqueue]
  refine ⟨fun c => ?_, fun r => ?_⟩
  · rw [State.CellFits, hnamings]
    simp only [hqueue]
    exact hcells c
  · obtain ⟨h1, h2, h3, h4, h5, h6⟩ := hqueues r
    rw [State.QueuesFit, hqueue]
    refine ⟨h1, h2, h3, ?_, h5, h6⟩
    obtain ⟨r1, r2, r3, r4, r5, r6⟩ := h4
    obtain ⟨s1, s2, s3, s4, -, -⟩ := hrange
    by_cases hr : q = r
    · simpa [hr, limitsInRange] using ⟨s1, s2, s3, s4, r5, r6⟩
    · simpa [hr, limitsInRange] using ⟨r1, r2, r3, r4, r5, r6⟩

end Sys2Proof.Machine
end

section
/-! What a command keeps of every invariant, and the commands built up from changes that keep them: the changes that leave the lock
records alone, and one operation on a lock. -/

namespace Sys2Proof.Machine

/-! ### What a change keeps -/

/-- The conditions under which a change is claimed to keep all it should: a frame that is carried out is none that a RESTART has held
(`fresh`, R160), it has renewed its lease (`leases`, R90), and its length is accepted (`lengths`, R111). -/
structure Scope where
  fresh : Prop
  leases : Prop
  lengths : Prop

/-- The scope of a frame that a host has just sent. -/
def Scope.all : Scope := ⟨True, True, True⟩

/-- A scope claims no more than another. -/
def Scope.Within (H G : Scope) : Prop := (H.fresh → G.fresh) ∧ (H.leases → G.leases) ∧ (H.lengths → G.lengths)

/-- The change keeps the queue of commands and the invariants of sessions, messages, engines and bindings. -/
structure Keeps (G : Scope) (s t : State) : Prop where
  pending : t.pending = s.pending
  sessions : s.SessionsSound → t.SessionsSound
  posts : s.GuardedPostsFit → t.GuardedPostsFit
  pool : G.lengths → s.PoolSound → t.PoolSound
  restart : G.fresh → s.RestartSound → t.RestartSound
  stretches : s.LocksSound → s.EnginesSound → s.StretchesSound → t.EnginesSound ∧ t.StretchesSound
  groups : s.GroupsSound → t.GroupsSound
  bindings : s.GroupsSound → s.BindingsAgree → t.BindingsAgree
  leases : G.leases → G.lengths → s.PoolSound → s.SessionsSound → s.LeasesOutlastStretches → t.LeasesOutlastStretches

/-- The enable line of the group stays, and the select value does while that line is asserted (R62). -/
structure Group.Steady (g x : Group) : Prop where
  enable : x.enable = g.enable
  select : x.select ≠ g.select → g.enable = false

/-- The change also leaves every lock record as it is, and touches no line of a group. -/
structure Local (G : Scope) (s t : State) : Prop extends Keeps G s t where
  lock : ∀ l, t.lock l = s.lock l
  lines : s.GroupsSound → ∀ g, (s.group g).Steady (t.group g)

/-- The change also keeps the lock records sound and the lines of the groups steady, and a fresh frame grants each lock at
most once (R4). -/
structure Change (G : Scope) (s t : State) : Prop extends Keeps G s t where
  locks : s.LocksSound → t.LocksSound
  lines : s.GroupsSound → ∀ g, (s.group g).Steady (t.group g)
  grants : G.fresh → s.LocksSound → ∀ l, (s.lock l).GrantsAtMostOnce (t.lock l)

section
variable {G H : Scope} {s t u : State}

theorem Group.Steady.refl (g : Group) : g.Steady g := ⟨rfl, fun hne => absurd rfl hne⟩

theorem Group.Steady.trans {g x y : Group} (h : g.Steady x) (h' : x.Steady y) : g.Steady y := by
  refine ⟨h'.enable.trans h.enable, fun hne => ?_⟩
  by_cases hsel : x.select = g.select
  · exact h.enable ▸ h'.select (hsel.symm ▸ hne)
  · exact h.select hsel

theorem Group.Keeps.steady {g x : Group} (h : g.Keeps x) : g.Steady x := ⟨h.enable, fun hne => absurd h.select hne⟩

theorem Keeps.trans (h : Keeps G s u) (hlocks : s.LocksSound → u.LocksSound) (h' : Keeps G u t) : Keeps G s t where
  pending := h'.pending.trans h.pending
  sessions := h'.sessions ∘ h.sessions
  posts := h'.posts ∘ h.posts
  pool hG := h'.pool hG ∘ h.pool hG
  restart hG := h'.restart hG ∘ h.restart hG
  stretches hl he hs :=
    have ⟨he', hs'⟩ := h.stretches hl he hs
    h'.stretches (hlocks hl) he' hs'
  groups := h'.groups ∘ h.groups
  bindings hg hb := h'.bindings (h.groups hg) (h.bindings hg hb)
  leases hG hn hp hs := h'.leases hG hn (h.pool hn hp) (h.sessions hs) ∘ h.leases hG hn hp hs

theorem Keeps.mono (h : Keeps G s t) (hw : H.Within G) : Keeps H s t :=
  have ⟨hfresh, hleases, hlengths⟩ := hw
  { h with
    restart := fun hH => h.restart (hfresh hH), pool := fun hH => h.pool (hlengths hH)
    leases := fun hH hn => h.leases (hleases hH) (hlengths hn) }

theorem Local.locks (h : Local G s t) (hl : s.LocksSound) : t.LocksSound := fun l => h.lock l ▸ hl l

theorem Local.trans (h : Local G s u) (h' : Local G u t) : Local G s t where
  toKeeps := h.toKeeps.trans h.locks h'.toKeeps
  lock l := (h'.lock l).trans (h.lock l)
  lines hg g := (h.lines hg g).trans (h'.lines (h.groups hg) g)

theorem Local.change (h : Local G s t) : Change G s t :=
  { h with locks := h.locks, grants := fun _ _ l => h.lock l ▸ LockRec.grants_of_kept rfl (.refl _) }

/-- Changes follow one another, as far as they keep sound what is sound. -/
theorem Change.trans_grants (h : Change G s u) (h' : Change G u t)
    (hgrants : G.fresh → s.LocksSound → ∀ l, (s.lock l).GrantsAtMostOnce (t.lock l)) : Change G s t where
  toKeeps := h.toKeeps.trans h.locks h'.toKeeps
  locks := h'.locks ∘ h.locks
  lines hg g := (h.lines hg g).trans (h'.lines (h.groups hg) g)
  grants := hgrants

theorem Change.then (h : Change G s u) (h' : Local G u t) : Change G s t :=
  h.trans_grants h'.change fun hG hl l => h'.lock l ▸ h.grants hG hl l

theorem Local.then (h : Local G s u) (h' : Change G u t) : Change G s t :=
  h.change.trans_grants h' fun hG hl l => h.lock l ▸ h'.grants hG (h.locks hl) l

/-- Without a claim about the grants changes follow one another. -/
theorem Change.trans (hG : ¬ G.fresh) (h : Change G s u) (h' : Change G u t) : Change G s t :=
  h.trans_grants h' fun hf => absurd hf hG

end

/-! ### Engines -/

/-- A port that waits with a blocking entry goes on waiting, and no stretch begins (R182). -/
structure Engine.KeepsStretch (e e' : Engine) : Prop where
  stretched : e'.state = .stretched → e.state = .stretched ∧ (e.handed.isSome = true → e'.handed.isSome = true)
  waits : ∀ l, e.stretchLock = some l → e.handed = none → e'.stretchLock = some l ∧ e'.handed = none

/-- The stretch timer does not gain, and once it has stopped a limit claim or an ending is on its way (R188). -/
def Engine.KeepsTimer (e e' : Engine) : Prop :=
  e'.state = .stretched →
    (∀ n ∈ e'.stretchTimer, n ∈ e.stretchTimer) ∧
      ((e.stretchTimer = none → e.limitClaim.isSome = true ∨ e.handed.isSome = true) →
        e'.stretchTimer = none → e'.limitClaim.isSome = true ∨ e'.handed.isSome = true)

/-- The values of an engine that a SET_PORT_LIMITS or a held frame brings with it lie in their ranges (R154, R158). -/
def Engine.InRange (e : Engine) : Prop := 1 ≤ e.stretchCopy.toNat ∧ e.stretchCopy.toNat ≤ 50 ∧ e.wait.inRange = true

theorem Engine.Moves.keepsStretch {e e' : Engine} (h : e.Moves e') : e.KeepsStretch e' :=
  ⟨fun hs => ⟨h.stretched.mp hs, by rw [h.handed]; exact id⟩, fun l hl hn => by rw [h.stretchLock, h.handed]; exact ⟨hl, hn⟩⟩

theorem Engine.Moves.keepsTimer {e e' : Engine} (h : e.Moves e') : e.KeepsTimer e' := fun hs => by
  obtain ⟨h1, h2⟩ := h.timer (h.stretched.mp hs)
  rw [h1, h2, h.handed]
  exact ⟨fun _ => id, id⟩

theorem Engine.Moves.inRange_of {e e' : Engine} (h : e.Moves e') (hr : e.InRange) : e'.InRange := by
  obtain ⟨h1, h2, h3⟩ := hr
  refine ⟨?_, ?_, h.inRange h3⟩ <;> rwa [h.stretchCopy]

section
variable {G : Scope} {s t : State}

theorem State.PoolSound.engine_inRange (h : s.PoolSound) (q : Port) : (s.engine q).InRange := by
  obtain ⟨-, -, -, ⟨-, -, -, -, h1, h2⟩, -, h3⟩ := h.2 q
  exact ⟨h1, h2, h3⟩

theorem State.PoolSound.notices_length (h : s.PoolSound) (q : Port) : (s.noticeQueue q).records.length ≤ 16 := by
  obtain ⟨-, -, h3, -⟩ := h.2 q
  exact h3

theorem State.PoolSound.limit_inRange (h : s.PoolSound) (q : Port) :
    limitsInRange (s.limit q).quota (s.limit q).sendCap (s.limit q).stretch := by
  obtain ⟨-, -, -, -, h5, -⟩ := h.2 q
  exact h5

/-- The pool stays sound with its cells and inbound queues, as long as the other values lie in their ranges. -/
theorem State.PoolSound.of_kept (h : s.PoolSound) (hcell : ∀ c, t.cell c = s.cell c) (hinbound : ∀ q, t.inbound q = s.inbound q)
    (hengine : ∀ q, (t.engine q).InRange) (hnotices : ∀ q, (t.noticeQueue q).records.length ≤ 16)
    (hlimit : ∀ q, limitsInRange (t.limit q).quota (t.limit q).sendCap (t.limit q).stretch) : t.PoolSound := by
  refine ⟨fun c => ?_, fun q => ?_⟩
  · have hc := h.1 c
    simp only [State.CellFits, State.namings, hcell, hinbound] at hc ⊢
    exact hc
  · obtain ⟨h1, h2, -, ⟨h4, h5, h6, h7, -⟩, -⟩ := h.2 q
    obtain ⟨hc1, hc2, hw⟩ := hengine q
    rw [State.QueuesFit, hinbound]
    exact ⟨h1, h2, hnotices q, ⟨h4, h5, h6, h7, hc1, hc2⟩, hlimit q, hw⟩

/-- A change of engines outside the lock table. -/
theorem Local.of_engines (hframe : t = { s with engines := t.engines }) (hsound : ∀ q, (s.engine q).Sound → (t.engine q).Sound)
    (hstretch : ∀ q, (s.engine q).KeepsStretch (t.engine q)) (hpool : s.PoolSound → ∀ q, (t.engine q).InRange)
    (hstages : s.restart = none ∨ ∀ q, (s.engine q).KeepsStages (t.engine q))
    (htimer : G.leases → ∀ q, (s.engine q).KeepsTimer (t.engine q)) : Local G s t := by
  have hlock (l : LockId) : t.lock l = s.lock l := by rw [hframe]; rfl
  have hgroup (g : GroupId) : t.group g = s.group g := by rw [hframe]; rfl
  have hsession (q : Port) : t.session q = s.session q := by rw [hframe]; rfl
  have hrestart : t.restart = s.restart := by rw [hframe]
  exact {
    pending := by rw [hframe]
    lock := hlock
    sessions := fun h q => hsession q ▸ h q
    posts := fun h => by rw [hframe]; exact h
    pool := fun _ h => h.of_kept (fun c => by rw [hframe]; rfl) (fun q => by rw [hframe]; rfl) (hpool h)
      (fun q => by rw [hframe]; exact h.notices_length q) fun q => by rw [hframe]; exact h.limit_inRange q
    restart := fun _ h r hr => by
      rw [hrestart] at hr
      obtain ⟨hs, hw, hclosed⟩ := h r hr
      obtain hnone | hkeeps := hstages
      · rw [hnone] at hr
        cases hr
      · obtain ⟨hs', hw'⟩ := hkeeps r.requester hs hw
        exact ⟨hs', hw', fun ht q => hsession q ▸ hclosed ht q⟩
    stretches := fun _ he hs => by
      refine ⟨fun q => hsound q (he q), fun q => ⟨fun l hl => ?_, fun hst => ?_⟩⟩
      · rw [hlock] at hl
        obtain ⟨h1, h2⟩ := (hs q).1 l hl
        exact (hstretch q).waits l h1 h2
      · obtain ⟨h1, h2⟩ := (hstretch q).stretched hst
        simp only [hlock]
        exact ((hs q).2 h1).imp_left h2
    groups := fun h g => hgroup g ▸ h g
    bindings := fun _ h g l => by rw [hgroup, hlock]; exact h g l
    lines := fun _ g => by rw [hgroup]; exact .refl _
    leases := fun hG _ _ _ h q hst ho => by
      rw [hsession] at ho ⊢
      obtain ⟨h1, h2, h3⟩ := h q ((hstretch q).stretched hst).1 ho
      obtain ⟨hn, hc⟩ := htimer hG q hst
      exact ⟨h1, fun n hm => h2 n (hn n hm), hc h3⟩ }

/-- The change of one engine. -/
theorem Local.of_setEngine {p : Port} {e : Engine} (hsound : (s.engine p).Sound → e.Sound) (hstretch : (s.engine p).KeepsStretch e)
    (hpool : s.PoolSound → e.InRange) (hstages : s.restart = none ∨ (s.engine p).KeepsStages e)
    (htimer : G.leases → (s.engine p).KeepsTimer e) : Local G s (s.setEngine p e) := by
  have hcase {P : Engine → Engine → Prop} (hp : P (s.engine p) e) (hrefl : ∀ x, P x x) (q : Port) :
      P (s.engine q) ((s.setEngine p e).engine q) := by
    by_cases hq : p = q
    · subst hq
      simpa using hp
    · simpa [hq] using hrefl (s.engine q)
  refine .of_engines rfl (hcase (P := fun x y => x.Sound → y.Sound) hsound fun _ => id)
    (hcase hstretch fun e => (Engine.Moves.refl e).keepsStretch) (fun hs q => ?_)
    (hstages.imp_right fun h => hcase h Engine.KeepsStages.refl) fun hG => hcase (htimer hG) fun e => (Engine.Moves.refl e).keepsTimer
  by_cases hq : p = q
  · subst hq
    simpa using hpool hs
  · simpa [hq] using hs.engine_inRange q

theorem Local.of_moves {p : Port} {e : Engine} (h : (s.engine p).Moves e) (hstages : s.restart = none ∨ (s.engine p).KeepsStages e) :
    Local G s (s.setEngine p e) :=
  .of_setEngine h.sound h.keepsStretch (fun hs => h.inRange_of (hs.engine_inRange p)) hstages fun _ => h.keepsTimer

theorem Local.of_linkMoves {p : Port} {e : Engine} (h : (s.engine p).LinkMoves e) : Local G s (s.setEngine p e) :=
  .of_moves h.moves (.inr h.keepsStages)

theorem Local.refl (G : Scope) (s : State) : Local G s s := by
  have h : Local G s (s.setEngine 0 (s.engine 0)) := .of_linkMoves (.refl _)
  rwa [State.setEngine_self] at h

/-! ### Sessions, messages and notices -/

/-- A change outside the engines, the lock table and the route block. -/
theorem Local.of_records
    (hframe : t =
      { s with
        sessions := t.sessions, cells := t.cells, inbounds := t.inbounds, notices := t.notices, limits := t.limits
        lockPosts := t.lockPosts, sessionPosts := t.sessionPosts, messagePosts := t.messagePosts, restart := t.restart })
    (hsessions : s.SessionsSound → t.SessionsSound) (hposts : s.GuardedPostsFit → t.GuardedPostsFit) (hpool : G.lengths → s.PoolSound → t.PoolSound)
    (hrestart : G.fresh → s.RestartSound → t.RestartSound)
    (hleases : s.SessionsSound → ∀ q, (s.engine q).state = .stretched → (t.session q).state = .opened →
      (s.session q).state = .opened ∧ (s.session q).lease ≤ (t.session q).lease) : Local G s t := by
  have hlock (l : LockId) : t.lock l = s.lock l := by rw [hframe]; rfl
  have hgroup (g : GroupId) : t.group g = s.group g := by rw [hframe]; rfl
  have hengine (q : Port) : t.engine q = s.engine q := by rw [hframe]; rfl
  exact {
    pending := by rw [hframe]
    lock := hlock
    sessions := hsessions
    posts := hposts
    pool := hpool
    restart := hrestart
    stretches := fun _ he hs => by
      refine ⟨fun q => hengine q ▸ he q, fun q => ?_⟩
      simp only [hengine, hlock]
      exact hs q
    groups := fun h g => hgroup g ▸ h g
    bindings := fun _ h g l => by rw [hgroup, hlock]; exact h g l
    lines := fun _ g => by rw [hgroup]; exact .refl _
    leases := fun _ _ _ hs h q hst ho => by
      rw [hengine] at hst ⊢
      obtain ⟨ho', hle⟩ := hleases hs q hst ho
      obtain ⟨h1, h2, h3⟩ := h q hst ho'
      have hle' : (s.session q).lease.toNat ≤ (t.session q).lease.toNat := hle
      exact ⟨h1.trans hle', fun n hn => (h2 n hn).trans hle', h3⟩ }

end

end Sys2Proof.Machine
end

section
/-! The changes that leave the lock records alone: sessions, posts, messages and notices, groups, and what an engine stores. -/

namespace Sys2Proof.Machine

/-! ### Sessions -/

/-- A session stays sound, stays CLOSED or not, and is not opened; an OPEN one keeps its lease at least (R84, R90). -/
structure Session.Moves (x y : Session) : Prop where
  sound : x.Sound → y.Sound
  closed : y.state = .closed ↔ x.state = .closed
  lease : x.Sound → y.state = .opened → x.state = .opened ∧ x.lease ≤ y.lease

section
variable {x : Session}

theorem Session.renewed_moves (x : Session) : x.Moves x.renewed := by
  unfold Session.renewed
  split
  · next ho =>
    refine ⟨fun h => ?_, .rfl, fun h _ => ⟨ho, h.2.1⟩⟩
    obtain ⟨h1, -, h3, h4⟩ := h
    exact ⟨h1, Nat.le_refl _, h3, by simp [ho], h4.2.1, by simp [ho]⟩
  · exact ⟨id, .rfl, fun _ ho => ⟨ho, Nat.le_refl _⟩⟩

/-- A teardown begins (R96). -/
theorem Session.beginTeardown_moves (ho : x.state = .opened) {reason : EndReason} (h1 : reason ≠ .noReason) (h2 : reason ≠ .restart)
    (awaiter : Option Port) : x.Moves (x.beginTeardown reason awaiter) := by
  refine ⟨fun h => ?_, by simp [Session.beginTeardown, ho], nofun⟩
  obtain ⟨hprio, -, hthreshold, -, hopened, -⟩ := h
  obtain ⟨-, -, hepoch, -⟩ := hopened ho
  exact ⟨hprio, Nat.zero_le _, hthreshold, nofun, nofun, fun _ => ⟨rfl, hepoch, h1, h2⟩⟩

/-- The step of a teardown is marked (R97). -/
theorem Session.marked_moves (ht : x.teardown ≠ none) (step : Teardown) : x.Moves { x with teardown := some step } := by
  refine ⟨fun h => ?_, .rfl, fun _ ho => ⟨ho, Nat.le_refl _⟩⟩
  obtain ⟨h1, h2, h3, h4, h5, h6⟩ := h
  exact ⟨h1, h2, h3, h4, fun ho => absurd (h5 ho).2.2.2.2 ht, h6⟩

/-- The teardown of a session is forgotten (R105). -/
theorem Session.endTeardown_moves (x : Session) : x.Moves { x with teardown := none } := by
  refine ⟨fun h => ?_, .rfl, fun _ ho => ⟨ho, Nat.le_refl _⟩⟩
  obtain ⟨h1, h2, h3, h4, h5, h6⟩ := h
  exact ⟨h1, h2, h3, h4, fun ho => have ⟨h7, h8, h9, h10, _⟩ := h5 ho; ⟨h7, h8, h9, h10, rfl⟩, h6⟩

/-- A new cap is taken (R155). -/
theorem Session.takeCap_moves (x : Session) (cap : Prio) : x.Moves (x.takeCap cap) := by
  refine ⟨fun h => ?_, .rfl, fun _ ho => ⟨ho, Nat.le_refl _⟩⟩
  obtain ⟨-, h2, h3, h4, h5, h6⟩ := h
  refine ⟨?_, h2, h3, fun hc => ?_, h5, h6⟩
  · unfold Session.takeCap
    split
    · next hc =>
      obtain ⟨-, hp, -⟩ := h4 hc
      simp [hp]
    · exact min_le_right _ _
  · obtain ⟨h7, h8, h9⟩ := h4 hc
    exact ⟨h7, by simp [Session.takeCap, show x.state = .closed from hc, h8], h9⟩

/-- A session is CLOSED at the end of its teardown or by a RESTART (R100, R105). -/
theorem Session.finish_sound (x : Session) (reason : EndReason) (step : Option Teardown) :
    ({ x.finish with endReason := reason, teardown := step } : Session).Sound :=
  ⟨Fin.zero_le _, Nat.le_refl _, by simp [Session.finish], fun _ => ⟨rfl, rfl, rfl, rfl, rfl⟩, nofun, nofun⟩

theorem nextEpoch_ne_zero (e : Byte) : nextEpoch e ≠ 0 := by
  unfold nextEpoch
  split
  · decide
  · next h =>
    intro hz
    exact h ((eq_neg_of_add_eq_zero_left hz).trans (by decide))

/-- The session that an OPEN makes is sound (R87). -/
theorem Session.opening_sound {lease : Word16} (h1 : 100 ≤ lease.toNat) (h2 : lease.toNat ≤ 60000) {threshold : Byte}
    (h3 : threshold.toNat ≤ 32) (prio : Prio) (enable : Bool) : (x.opening lease prio threshold enable).Sound :=
  ⟨min_le_right _ _, Nat.le_refl _, h3, nofun, fun _ => ⟨h1, h2, nextEpoch_ne_zero _, rfl, rfl⟩, nofun⟩

end

section
variable {G : Scope} {s t : State} {p : Port}

/-- The guarded posts fit as long as new ones are allowed and no session is closed. -/
theorem State.GuardedPostsFit.of_allowed (h : s.GuardedPostsFit)
    (hposts : ∀ x ∈ t.lockPosts ++ t.messagePosts, s.PostAllowed (s.lockPosts ++ s.messagePosts) x)
    (hclosed : ∀ q, (t.session q).state = .closed → (s.session q).state = .closed) : t.GuardedPostsFit := by
  intro x hx hg hc
  obtain hx | hx | hx := hposts x hx
  · exact h x hx hg (hclosed _ hc)
  · simp [hx] at hg
  · simp [hclosed _ hc] at hx

/-- A change of sessions. -/
theorem Local.of_sessions (hframe : t = { s with sessions := t.sessions }) (h : ∀ q, (s.session q).Moves (t.session q)) :
    Local G s t :=
  .of_records (by rw [hframe]) (fun hs q => (h q).sound (hs q))
    (fun hs => hs.of_allowed (by rw [hframe]; exact fun _ => .inl) fun q => (h q).closed.mp) (fun _ hs => by rw [hframe]; exact hs)
    (fun _ hs r hr => by
      have hr' : r ∈ s.restart := by rwa [hframe] at hr
      obtain ⟨h1, h2, h3⟩ := hs r hr'
      exact ⟨by rw [hframe]; exact h1, by rw [hframe]; exact h2, fun ht q => (h q).closed.mpr (h3 ht q)⟩)
    fun hs q _ ho => (h q).lease (hs q) ho

theorem Local.of_setSession {y : Session} (h : (s.session p).Moves y) : Local G s (s.setSession p y) := by
  refine .of_sessions rfl fun q => ?_
  by_cases hq : p = q
  · subst hq
    simpa using h
  · simpa [hq] using (⟨id, .rfl, fun _ ho => ⟨ho, Nat.le_refl _⟩⟩ : (s.session q).Moves (s.session q))

/-- Sessions end, and the guarded posts to their ports are discarded (R100, R105, R138). -/
theorem Local.of_ended (ended : Port → Bool) (hframe : t = { s.discardPosts ended with sessions := t.sessions })
    (h : ∀ q, t.session q = s.session q ∧ ended q = false ∨
      ended q = true ∧ (t.session q).state = .closed ∧ ((s.session q).Sound → (t.session q).Sound)) : Local G s t := by
  refine .of_records (by rw [hframe]; rfl) (fun hs q => ?_) (fun hs x hx hg hc => ?_) (fun _ hs => by rw [hframe]; exact hs)
    (fun _ hs r hr => ?_) fun hs q _ ho => ?_
  · obtain ⟨hq, -⟩ | ⟨-, -, hq⟩ := h q
    · exact hq ▸ hs q
    · exact hq (hs q)
  · have hx' : x ∈ withoutEnded ended s.lockPosts ++ withoutEnded ended s.messagePosts := by rwa [hframe] at hx
    rw [List.mem_append, mem_withoutEnded, mem_withoutEnded, ← or_and_right] at hx'
    obtain ⟨hmem, hkept⟩ := hx'
    obtain ⟨hq, -⟩ | ⟨hq, -⟩ := h x.port
    · exact hs x (List.mem_append.mpr hmem) hg (hq ▸ hc)
    · simp [hkept hg] at hq
  · have hr' : r ∈ s.restart := by rwa [hframe] at hr
    obtain ⟨h1, h2, h3⟩ := hs r hr'
    refine ⟨by rw [hframe]; exact h1, by rw [hframe]; exact h2, fun ht q => ?_⟩
    obtain ⟨hq, -⟩ | ⟨-, hq, -⟩ := h q
    · exact hq ▸ h3 ht q
    · exact hq
  · obtain ⟨hq, -⟩ | ⟨-, hq, -⟩ := h q
    · exact ⟨hq ▸ ho, hq ▸ Nat.le_refl _⟩
    · rw [hq] at ho
      cases ho

/-- A CLOSED session is opened by a frame of its port; no RESTART of another port is in progress (R86, R158). -/
theorem Local.of_opened {y : Session} (hs : (s.engine p).state = .executing) (hw : (s.engine p).wait = .nothing)
    (hrestart : G.fresh → ∀ r ∈ s.restart, r.requester = p) (ho : y.state = .opened) (hy : y.Sound) : Local G s (s.setSession p y) := by
  refine .of_records rfl (fun h q => ?_) (fun h => h.of_allowed (fun _ => .inl) fun q => ?_) (fun _ h => h) (fun hG h r hr => ?_)
    fun _ q hst => ?_
  · by_cases hq : p = q
    · subst hq
      simpa using hy
    · simpa [hq] using h q
  · by_cases hq : p = q
    · subst hq
      simp [ho]
    · simp [hq]
  · obtain ⟨-, hwait, -⟩ := h r hr
    rw [hrestart hG r hr, hw] at hwait
    cases hwait
  · have hq : p ≠ q := by
      rintro rfl
      simp [hs] at hst
    simp [hq]

/-! ### Posts and notices -/

/-- Posts are sent or taken. -/
theorem Local.of_posts (hframe : t = { s with lockPosts := t.lockPosts, sessionPosts := t.sessionPosts, messagePosts := t.messagePosts })
    (h : ∀ x ∈ t.lockPosts ++ t.messagePosts, s.PostAllowed (s.lockPosts ++ s.messagePosts) x) : Local G s t := by
  have hsession (q : Port) : t.session q = s.session q := by rw [hframe]; rfl
  exact .of_records (by rw [hframe]) (fun hs q => hsession q ▸ hs q) (fun hs => hs.of_allowed h fun q => by rw [hsession]; exact id)
    (fun _ hs => by rw [hframe]; exact hs) (fun _ hs => by rw [hframe]; exact hs)
    fun _ q _ ho => by rw [hsession] at ho ⊢; exact ⟨ho, Nat.le_refl _⟩

theorem Local.tellPeers (s : State) (n : Notice) (k : Option Port) (qs : List Port) : Local G s (s.tellPeers n k qs) := by
  refine .of_posts (by rw [State.tellPeers_frame]) fun x hx => .inl ?_
  rwa [State.tellPeers_frame] at hx

/-- A notice queue of at most 16 records (R130). -/
theorem Local.of_setNoticeQueue {q : NoticeQueue} (h : (s.noticeQueue p).records.length ≤ 16 → q.records.length ≤ 16) :
    Local G s (s.setNoticeQueue p q) := by
  refine .of_records rfl (fun hs => hs) (fun hs => hs)
    (fun _ hs => hs.of_kept (fun _ => rfl) (fun _ => rfl) (fun r => hs.engine_inRange r) (fun r => ?_) fun r => hs.limit_inRange r)
    (fun _ hs => hs) fun _ _ _ ho => ⟨ho, Nat.le_refl _⟩
  by_cases hr : p = r
  · subst hr
    simpa using h (hs.notices_length p)
  · simpa [hr] using hs.notices_length r

theorem NoticeQueue.takePost_length {q : NoticeQueue} (h : q.records.length ≤ 16) (n : Notice) :
    (q.takePost n).records.length ≤ 16 := by
  unfold NoticeQueue.takePost
  split
  · next hlt =>
    rw [Config.noticeCapacity] at hlt
    simp only [List.length_append, List.length_singleton]
    omega
  · exact h

/-- A post is taken or dropped (R132). -/
theorem Local.takePost (s : State) (x : Post) : Local G s (s.takePost x) := by
  obtain h | ⟨-, -, h⟩ := s.takePost_cases x
  · rw [h]
    exact .refl G s
  · rw [h]
    exact .of_setNoticeQueue fun hl => NoticeQueue.takePost_length hl _

/-! ### Messages and limits -/

/-- A change of the message block. -/
theorem Local.of_messages (hframe : s.MessageChange t) (hpool : G.lengths → s.PoolSound → t.PoolSound)
    (hposts : ∀ x ∈ t.messagePosts, s.PostAllowed s.messagePosts x) : Local G s t := by
  have hframe' : t = { s with cells := t.cells, inbounds := t.inbounds, messagePosts := t.messagePosts } := hframe
  refine .of_records (by rw [hframe']) (fun hs q => hframe.session q ▸ hs q) (fun hs => hs.of_allowed (fun x hx => ?_) fun q => ?_) hpool
    (fun _ hs => by rw [hframe']; exact hs) fun _ q _ ho => ?_
  · obtain hx | hx := List.mem_append.mp hx
    · rw [hframe'] at hx
      exact .inl (List.mem_append_left _ hx)
    · exact (hposts x hx).imp_left (List.mem_append_right _)
  · rw [hframe.session]
    exact id
  · rw [hframe.session] at ho ⊢
    exact ⟨ho, Nat.le_refl _⟩

/-- A receipt goes under the guard (R121). -/
theorem State.release_posts (s : State) (c : CellId) (outcome : ReceiptOutcome) (k : Option Port) :
    ∀ x ∈ (s.release p c outcome k).messagePosts, s.PostAllowed s.messagePosts x := by
  unfold State.release
  split
  · next y hy =>
    unfold State.postReceipt
    split
    · next h =>
      intro x hx
      obtain hx | hx := List.mem_append.mp hx
      · exact .inl hx
      · rw [List.mem_singleton] at hx
        subst hx
        exact .inr (.inr ((State.sessionIs_iff _ _ _).mp h.2).1)
    · exact fun x => .inl
  · exact fun x => .inl

theorem State.releaseAll_posts (s : State) (k : Option Port) (cs : List CellId) :
    ∀ x ∈ (s.releaseAll p k cs).messagePosts, s.PostAllowed s.messagePosts x := by
  induction cs generalizing s with
  | nil => exact fun x => .inl
  | cons c cs ih =>
    intro x hx
    have hsession (q : Port) : (s.release p c .discarded k).session q = s.session q := by rw [State.release_frame]; rfl
    obtain hx | hx | hx := ih _ x hx
    · exact s.release_posts c .discarded k x hx
    · exact .inr (.inl hx)
    · exact .inr (.inr (by rwa [hsession] at hx))

theorem Local.flushQueue (s : State) (p : Port) (k : Option Port) : Local G s (s.flushQueue p k) :=
  .of_messages (s.flushQueue_frame p k) (fun _ hs => hs.flushQueue p k)
    (State.releaseAll_posts (s.setInbound p { s.inbound p with queue := [] }) k _)

/-- The configuration block stores limits in range (R154). -/
theorem Local.of_setLimit {m : PortLimits} (h : limitsInRange m.quota m.sendCap m.stretch) : Local G s (s.setLimit p m) := by
  refine .of_records rfl (fun hs => hs) (fun hs => hs)
    (fun _ hs => hs.of_kept (fun _ => rfl) (fun _ => rfl) (fun r => hs.engine_inRange r) (fun r => hs.notices_length r) fun r => ?_)
    (fun _ hs => hs) fun _ _ _ ho => ⟨ho, Nat.le_refl _⟩
  by_cases hr : p = r
  · subst hr
    simpa using h
  · simpa [hr] using hs.limit_inRange r

/-! ### The RESTART -/

/-- A RESTART begins, is taken by a block, or ends. -/
theorem Local.of_restart {r : Option Restart} (h : G.fresh → s.RestartSound → ({ s with restart := r } : State).RestartSound) :
    Local G s { s with restart := r } :=
  .of_records rfl (fun hs => hs) (fun hs => hs) (fun _ hs => hs) h fun _ _ _ ho => ⟨ho, Nat.le_refl _⟩

/-! ### Groups -/

/-- A group changes, but for its lines and its binding. -/
theorem Local.of_setGroup {g : GroupId} {x : Group} (h : (s.group g).Keeps x) : Local G s (s.setGroup g x) := by
  have hkeeps (k : GroupId) : (s.group k).Keeps ((s.setGroup g x).group k) := by
    by_cases hk : g = k
    · subst hk
      simpa using h
    · simpa [hk] using Group.Keeps.refl (s.group k)
  exact {
    pending := rfl
    lock := fun _ => rfl
    sessions := fun hs => hs
    posts := fun hs => hs
    pool := fun _ hs => hs
    restart := fun _ hs => hs
    stretches := fun _ he hs => ⟨he, hs⟩
    groups := fun hs k => (hkeeps k).sound (hs k)
    bindings := fun _ hb k l => by rw [(hkeeps k).lock]; exact hb k l
    lines := fun _ k => (hkeeps k).steady
    leases := fun _ _ _ _ hs => hs }

end

end Sys2Proof.Machine
end

section
/-! What an engine stores, one operation on a lock, the beginning of a stretch and the bindings, as changes that keep the invariants. -/

namespace Sys2Proof.Machine

section
variable {G : Scope} {s t : State} {p : Port} {l : LockId}

/-! ### The frame in EXECUTING -/

/-- A frame of port `p` is in EXECUTING and waits for nothing; if it is fresh, then no RESTART of another port is in progress, and its lease
has been renewed (R90, R158, R173, R186). -/
structure State.Ready (G : Scope) (s : State) (p : Port) : Prop where
  state : (s.engine p).state = .executing
  wait : (s.engine p).wait = .nothing
  restart : G.fresh → ∀ r ∈ s.restart, r.requester = p
  lease : G.leases → (s.session p).state = .opened → (s.session p).lease = (s.session p).leasePeriod

/-- A response is stored (R170). -/
theorem Local.respond (hs : (s.engine p).state = .executing) (hw : s.restart = none ∨ (s.engine p).wait ≠ .restartStages) (st : Status)
    (data : List Byte) : Local G s (s.respond p st data) :=
  .of_moves (Engine.respond_moves hs st data) (hw.imp_right fun hw _ h => absurd h hw)

/-- The engine waits in EXECUTING (R186). -/
theorem Local.waitFor (hs : (s.engine p).state = .executing) (hw : (s.engine p).wait ≠ .restartStages) {w : ExecWait}
    (hrange : s.PoolSound → w.inRange = true) (hdefers : (s.engine p).Sound → (s.engine p).stageDeferred = true → w.defersStage = true) :
    Local G s (s.waitFor p w) := by
  refine .of_setEngine (fun hsound => ?_) ⟨fun hst => by simp [hs] at hst, fun l hl hn => ⟨hl, hn⟩⟩ (fun hp => ?_)
    (.inr fun _ h => absurd h hw) fun _ hst => by simp [hs] at hst
  · have hdef := hdefers hsound
    obtain ⟨h1, h2, h3, h4, -, -, h5⟩ := hsound
    exact ⟨h1, h2, h3, h4, fun _ => hs, fun hd => ⟨hs, hdef hd⟩, h5⟩
  · obtain ⟨h1, h2, -⟩ := hp.engine_inRange p
    exact ⟨h1, h2, hrange hp⟩

theorem State.Ready.not_stages (h : s.Ready G p) : s.restart = none ∨ (s.engine p).wait ≠ .restartStages := by
  rw [h.wait]
  exact .inr nofun

theorem State.Ready.respond (h : s.Ready G p) (st : Status) (data : List Byte) : Local G s (s.respond p st data) :=
  .respond h.state h.not_stages st data

theorem State.Ready.refuse (h : s.Ready G p) (st : Status) : Local G s (s.refuse p st) := h.respond st []

theorem State.Ready.waitFor (h : s.Ready G p) {w : ExecWait} (hrange : s.PoolSound → w.inRange = true) : Local G s (s.waitFor p w) :=
  .waitFor h.state (by simp [h.wait]) hrange fun hsound hd => by
    obtain ⟨-, -, -, -, -, hdeferred, -⟩ := hsound
    have := hdeferred hd
    simp [h.wait, ExecWait.defersStage] at this

/-! ### The ends of a stretch -/

/-- The ending of a stretch is stored (R188). -/
theorem Local.storeEnding (hs : (s.engine p).state = .stretched) {x : Ending} (hx : (s.engine p).handed = some x) :
    Local G s (s.setEngine p ((s.engine p).storeEnding x)) :=
  .of_setEngine (fun h => h.storeEnding hs x) ⟨nofun, fun l _ hn => by simp [hx] at hn⟩ (fun hp => hp.engine_inRange p)
    (.inr fun h => by simp [hs] at h) fun _ => nofun

/-- The stretch timer has run out, and a limit claim is sent (R188). -/
theorem Local.stretchLimit (hs : (s.engine p).state = .stretched) (hG : G.leases → (s.engine p).Sound) :
    Local G s (s.setEngine p { s.engine p with stretchTimer := none, limitClaim := (s.engine p).stretchLock }) :=
  .of_setEngine Engine.Sound.stretchLimit ⟨fun h => ⟨h, id⟩, fun _ h1 h2 => ⟨h1, h2⟩⟩ (fun hp => hp.engine_inRange p)
    (.inr fun h1 h2 => ⟨h1, h2⟩) fun hg _ => by
      obtain ⟨-, -, -, -, -, -, hlock, -⟩ := hG hg
      exact ⟨nofun, fun _ _ => .inl (hlock.mpr hs)⟩

/-- A limit claim has been taken (R42). -/
theorem Local.claimTaken (hG : G.leases → (s.engine p).state = .stretched → (s.engine p).handed.isSome = true) :
    Local G s (s.setEngine p { s.engine p with limitClaim := none }) :=
  .of_setEngine Engine.Sound.claimTaken ⟨fun h => ⟨h, id⟩, fun _ h1 h2 => ⟨h1, h2⟩⟩ (fun hp => hp.engine_inRange p)
    (.inr fun h1 h2 => ⟨h1, h2⟩) fun hg hs => ⟨fun _ => id, fun _ _ => .inr (hG hg hs)⟩

/-- A block takes its values of a SET_PORT_LIMITS (R155 to R157). -/
theorem Local.takeLimits {h : LimitsHandover} (hrange : s.PoolSound → limitsInRange h.quota h.sendCap h.stretch) (block : LimitBlock) :
    Local G s (s.takeLimits h block) := by
  cases block with
  | session => exact .of_setSession (Session.takeCap_moves _ _)
  | message => exact .of_messages rfl (fun _ hp => hp.takeLimits (hrange hp)) fun _ => .inl
  | engine =>
    refine .of_setEngine (fun hsound => hsound) ⟨fun h => ⟨h, id⟩, fun _ h1 h2 => ⟨h1, h2⟩⟩ (fun hp => ?_)
      (.inr fun h1 h2 => ⟨h1, h2⟩) fun _ _ => ⟨fun _ => id, id⟩
    obtain ⟨-, -, -, -, h1, h2⟩ := hrange hp
    obtain ⟨-, -, hw⟩ := hp.engine_inRange h.port
    exact ⟨h1, h2, hw⟩

/-! ### One operation on a lock -/

section
variable {A : Prop} {owed : Port → Prop}

/-- An operation on a lock hands endings, and leaves an engine as it is otherwise. -/
theorem LockOp.engine_eq (h : LockOp A l owed s t) (q : Port) :
    ∃ x, t.engine q = { s.engine q with handed := x } ∧ ((s.engine q).handed.isSome = true → x.isSome = true) := by
  obtain hq | ⟨x, hq⟩ := h.engine q
  · exact ⟨_, hq, id⟩
  · refine ⟨_, hq, fun hx => ?_⟩
    cases hh : (s.engine q).handed with
    | none => simp [hh] at hx
    | some y => rfl

/-- Engines and blocking entries stay in step (R39 to R44). -/
theorem LockOp.stretches (h : LockOp A l (fun _ => False) s t) (hA : A) (hl : s.LocksSound) (he : s.EnginesSound)
    (hs : s.StretchesSound) : t.EnginesSound ∧ t.StretchesSound := by
  have hport (q : Port) : (t.engine q).Sound ∧
      (∀ k, (t.lock k).blocks q = true → (t.engine q).stretchLock = some k ∧ (t.engine q).handed = none) ∧
      ((t.engine q).state = .stretched → (t.engine q).handed.isSome = true ∨ ∃ k, (t.lock k).blocks q = true) := by
    obtain ⟨hwaits, hends⟩ := hs q
    obtain ⟨hq, hb⟩ | ⟨⟨hb, hb'⟩, ho | ⟨x, hq⟩⟩ := h.entries hA (hl l).waitsOnce q
    · have hblocks (k : LockId) : (t.lock k).blocks q = (s.lock k).blocks q := by
        by_cases hk : k = l
        · rw [hk, hb]
        · rw [h.other k hk]
      simp only [hq, hblocks]
      exact ⟨he q, hwaits, hends⟩
    · exact ho.1.elim
    · obtain ⟨hlock, hnone⟩ := hwaits l hb
      obtain ⟨-, -, -, -, -, -, hstretched, -⟩ := he q
      have hst : (s.engine q).state = .stretched := hstretched.mp (by simp [hlock])
      refine ⟨hq ▸ (he q).hand hst x, fun k hk => ?_, fun _ => .inl (by simp [hq, Engine.hand, hnone])⟩
      by_cases hkl : k = l
      · rw [hkl, hb'] at hk
        cases hk
      · rw [h.other k hkl] at hk
        have := (hwaits k hk).1
        rw [hlock] at this
        exact absurd (Option.some.inj this).symm hkl
  exact ⟨fun q => (hport q).1, fun q => (hport q).2⟩

theorem LockOp.keeps (h : LockOp A l (fun _ => False) s t) (hA : s.LocksSound → s.EnginesSound → s.StretchesSound → A) :
    Keeps G s t where
  pending := by rw [h.frame]
  sessions hs q := h.session q ▸ hs q
  posts hs := hs.of_allowed (fun x hx => by
    obtain hx | hx := List.mem_append.mp hx
    · exact (h.posts x hx).imp_left (List.mem_append_left _)
    · rw [h.frame] at hx
      exact .inl (List.mem_append_right _ hx)) fun q => by rw [h.session]; exact id
  pool _ hs := hs.of_kept (fun c => by rw [h.frame]; rfl) (fun q => by rw [h.frame]; rfl)
    (fun q => by
      obtain ⟨x, hq, -⟩ := h.engine_eq q
      rw [hq]
      exact hs.engine_inRange q)
    (fun q => by rw [h.frame]; exact hs.notices_length q) fun q => by rw [h.frame]; exact hs.limit_inRange q
  restart _ hs r hr := by
    have hr' : r ∈ s.restart := by rwa [h.frame] at hr
    obtain ⟨h1, h2, h3⟩ := hs r hr'
    obtain ⟨x, hq, -⟩ := h.engine_eq r.requester
    rw [hq]
    exact ⟨h1, h2, fun ht q => h.session q ▸ h3 ht q⟩
  stretches hl he hs := h.stretches (hA hl he hs) hl he hs
  groups hs g := (h.group g).sound (hs g)
  bindings _ hs g k := by
    rw [(h.group g).lock, hs g k]
    by_cases hk : k = l
    · rw [hk, h.binding]
    · rw [h.other k hk]
  leases _ _ _ _ hs q hst ho := by
    obtain ⟨x, hq, hx⟩ := h.engine_eq q
    rw [h.session] at ho ⊢
    rw [hq] at hst ⊢
    obtain ⟨h1, h2, h3⟩ := hs q hst ho
    exact ⟨h1, h2, fun hn => (h3 hn).imp_right hx⟩

/-- One operation on one lock. -/
theorem LockOp.change_of (h : LockOp A l (fun _ => False) s t) (hA : s.LocksSound → s.EnginesSound → s.StretchesSound → A)
    (hm : (s.lock l).Moves l (t.lock l)) : Change G s t where
  toKeeps := h.keeps hA
  locks hs k := by
    by_cases hk : k = l
    · exact hk ▸ hm.sound (hs l)
    · exact h.other k hk ▸ hs k
  lines _ g := (h.group g).steady
  grants _ hs k := by
    by_cases hk : k = l
    · exact hk ▸ hm.grants (hs l)
    · exact h.other k hk ▸ LockRec.grants_of_kept rfl (.refl _)

theorem LockOp.change (h : LockOp ((s.lock l).Sound l) l (fun _ => False) s t) (hm : (s.lock l).Moves l (t.lock l)) : Change G s t :=
  h.change_of (fun hl _ _ => hl l) hm

/-- The port of a frame in EXECUTING has no blocking entry (R39). -/
theorem State.Ready.blocks_eq_false (hr : s.Ready G p) (he : s.EnginesSound) (hs : s.StretchesSound) (k : LockId) :
    (s.lock k).blocks p = false := by
  by_contra hb
  obtain ⟨-, -, -, -, -, -, hstretched, -⟩ := he p
  have := hstretched.mp (by simp [((hs p).1 k (by simpa using hb)).1])
  rw [hr.state] at this
  cases this

/-- One operation on a lock for a frame, and its response. -/
theorem State.Ready.change_respond (hr : s.Ready G p)
    (h : LockOp ((s.lock l).Sound l ∧ (s.lock l).blocks p = false) l (fun _ => False) s t)
    (hm : (s.lock l).Moves l (t.lock l)) (st : Status) (data : List Byte) : Change G s (t.respond p st data) := by
  obtain ⟨x, hq, -⟩ := h.engine_eq p
  refine (h.change_of (fun hl he hs => ⟨hl l, hr.blocks_eq_false he hs l⟩) hm).then (.respond ?_ ?_ st data)
  · rw [hq]
    exact hr.state
  · rw [hq, h.frame]
    exact hr.not_stages

end

end

end Sys2Proof.Machine
end

section
/-! The frames that change a lock or a binding, as changes that keep the invariants. -/

namespace Sys2Proof.Machine

section
variable {G : Scope} {s t v : State} {p : Port} {l : LockId}

/-! ### A new entry, and the stretch of its port -/

theorem LockRec.waitsFor_eq_false_iff {lk : LockRec} : lk.waitsFor p = false ↔ p ∉ lk.flags.map Prod.fst := by
  rw [← Bool.not_eq_true, LockRec.waitsFor_iff, LockRec.flags_ports, List.mem_append]

/-- A new entry joins the queue (R28). -/
theorem LockRec.flags_enqueue (lk : LockRec) (w : Waiter) :
    ({ lk with queue := insertWaiter w lk.queue } : LockRec).flags.Perm ((w.port, w.blocking) :: lk.flags) := by
  have h := ((insertWaiter_perm w lk.queue).append_right lk.target.toList).map fun w => (w.port, w.blocking)
  exact h

/-- A new entry is the handover target (R12). -/
theorem LockRec.flags_handover {lk : LockRec} (ht : lk.target = none) (w : Waiter) :
    ({ lk with state := .handover, target := some w } : LockRec).flags.Perm ((w.port, w.blocking) :: lk.flags) := by
  simp only [LockRec.flags, ht, Option.toList_some, Option.toList_none, List.append_nil, List.map_append, List.map_cons, List.map_nil]
  exact List.perm_append_singleton _ _

theorem LockRec.blocks_of_perm {a b : LockRec} {x : Bool} (h : b.flags.Perm ((p, x) :: a.flags)) (q : Port) :
    b.blocks q = true ↔ a.blocks q = true ∨ x = true ∧ q = p := by
  rw [LockRec.blocks_iff, LockRec.blocks_iff, h.mem_iff, List.mem_cons, Prod.mk.injEq, or_comm, and_comm, eq_comm (a := true)]

/-- A port that has not waited at the lock gets an entry without the blocking flag (R38). -/
theorem LockOp.enter {A : Prop} {lk : LockRec} (hgroup : lk.group = (s.lock l).group) (hp : (s.lock l).waitsFor p = false)
    (hflags : A → lk.flags.Perm ((p, false) :: (s.lock l).flags))
    (htarget : A → (s.lock l).WaitsOnce → lk.target.isSome = true → lk.state = .handover) :
    LockOp A l (fun _ => False) s (s.setLock l lk) := by
  refine (LockOp.setLock (owed := fun _ => False) hgroup (fun ha hw => ⟨?_, htarget ha hw⟩) fun ha _ q => .inl ?_)
  · rw [((hflags ha).map Prod.fst).nodup_iff]
    exact List.nodup_cons.mpr ⟨LockRec.waitsFor_eq_false_iff.mp hp, hw.1⟩
  · rw [Bool.eq_iff_iff, LockRec.blocks_of_perm (hflags ha)]
    simp

/-- The port of a frame gets a blocking entry at one lock, and its engine begins the stretch (R39, R187). -/
theorem State.Ready.beginStretch (hr : s.Ready G p) (hframe : v = { s with locks := v.locks, groups := v.groups })
    (hother : ∀ k, k ≠ l → v.lock k = s.lock k) (hbinding : (v.lock l).group = (s.lock l).group)
    (hgroup : ∀ g, (s.group g).Keeps (v.group g)) (hflags : (s.lock l).Sound l → (v.lock l).flags.Perm ((p, true) :: (s.lock l).flags))
    (hm : (s.lock l).Moves l (v.lock l)) : Change G s (v.beginStretch p l) := by
  have hengine (q : Port) : (v.beginStretch p l).engine q = if p = q then (s.engine p).beginStretch l else s.engine q := by
    have hv (q : Port) : v.engine q = s.engine q := by rw [hframe]; rfl
    rw [State.beginStretch, State.engine_setEngine, hv, hv]
  have hself : (v.beginStretch p l).engine p = (s.engine p).beginStretch l := by rw [hengine, if_pos rfl]
  have hsession (q : Port) : (v.beginStretch p l).session q = s.session q := by rw [hframe]; rfl
  have hlock (k : LockId) : (v.beginStretch p l).lock k = v.lock k := rfl
  have hgroupEq (g : GroupId) : (v.beginStretch p l).group g = v.group g := rfl
  exact {
    pending := by rw [hframe]; rfl
    sessions := fun hs q => hsession q ▸ hs q
    posts := fun hs => by rw [hframe]; exact hs
    pool := fun _ hs => hs.of_kept (fun c => by rw [hframe]; rfl) (fun q => by rw [hframe]; rfl)
      (fun q => by
        rw [hengine]
        split
        · obtain ⟨h1, h2, -⟩ := hs.engine_inRange p
          exact ⟨h1, h2, rfl⟩
        · exact hs.engine_inRange q)
      (fun q => by rw [hframe]; exact hs.notices_length q) fun q => by rw [hframe]; exact hs.limit_inRange q
    restart := fun hG hs r hmem => by
      have hmem' : r ∈ s.restart := by rwa [hframe] at hmem
      obtain ⟨-, hwait, -⟩ := hs r hmem'
      rw [hr.restart hG r hmem', hr.wait] at hwait
      cases hwait
    stretches := fun hl he hs => by
      have hno := hr.blocks_eq_false he hs
      have hblocks (k : LockId) (q : Port) : (v.lock k).blocks q = true ↔ (s.lock k).blocks q = true ∨ k = l ∧ q = p := by
        by_cases hk : k = l
        · rw [hk, LockRec.blocks_of_perm (hflags (hl l))]
          simp
        · simp [hother k hk, hk]
      refine ⟨fun q => ?_, fun q => ?_⟩
      · rw [hengine]
        split
        · exact (he p).beginStretch hr.state hr.wait l
        · exact he q
      · simp only [hlock, hblocks]
        by_cases hq : p = q
        · subst hq
          rw [hself]
          refine ⟨fun k hk => ?_, fun _ => .inr ⟨l, .inr ⟨rfl, rfl⟩⟩⟩
          rw [hno k] at hk
          obtain ⟨rfl, -⟩ := hk.resolve_left (by simp)
          exact ⟨rfl, rfl⟩
        · rw [hengine, if_neg hq]
          simp only [Ne.symm hq, and_false, or_false]
          exact hs q
    groups := fun hs g => (hgroup g).sound (hs g)
    bindings := fun _ hs g k => by
      rw [hgroupEq, (hgroup g).lock, hs g k, hlock]
      by_cases hk : k = l
      · rw [hk, hbinding]
      · rw [hother k hk]
    leases := fun hG _ hp hsess hs q hst ho => by
      rw [hsession] at ho ⊢
      rw [hengine] at hst ⊢
      split at hst
      · next hq =>
        subst hq
        obtain ⟨-, hcopy, -⟩ := hp.engine_inRange p
        obtain ⟨-, -, -, -, hopened, -⟩ := hsess p
        obtain ⟨hperiod, -⟩ := hopened ho
        rw [if_pos rfl, hr.lease hG ho]
        refine ⟨by omega, fun n hn => ?_, nofun⟩
        obtain rfl := Option.some.inj hn
        omega
      · next hq => rw [if_neg hq]; exact hs q hst ho
    locks := fun hs k => by
      by_cases hk : k = l
      · exact hk ▸ hm.sound (hs l)
      · exact hother k hk ▸ hs k
    lines := fun _ g => (hgroup g).steady
    grants := fun _ hs k => by
      by_cases hk : k = l
      · exact hk ▸ hm.grants (hs l)
      · exact hother k hk ▸ LockRec.grants_of_kept rfl (.refl _) }

/-! ### ACQUIRE -/

theorem State.Ready.grantAtOnce {m : Mode} (hr : s.Ready G p) (hs : (s.lock l).Sound l → (s.lock l).state = .free ∨ (s.lock l).state = .shared)
    (hno : (s.lock l).Sound l → ∀ w ∈ (s.lock l).queue, w.req ≠ .upgrade)
    (hexcl : m = .exclusive → (s.lock l).Sound l → ∀ x ∈ (s.lock l).holders, x.port = p)
    (hshared : m = .shared → (s.lock l).sharedAllowed = true ∧ (s.lock l).group = none) : Change G s (grantAtOnce p l m s) := by
  refine hr.change_respond (l := l) (LockOp.setLock_of_flags (by rfl) (by rfl) fun ha _ ht => ?_) ?_ _ _
  · have hnone := (ha.1.settling.no_places (hs ha.1)).2
    simp [LockRec.grant, hnone] at ht
  · rw [State.lock_setLock, if_pos rfl]
    exact .grant hs hno hexcl hshared

theorem State.Ready.enqueue {req : ReqMode} {deadline : Word16} (hr : s.Ready G p) (blocking : Bool) (hp : (s.lock l).waitsFor p = false)
    (hfree : (s.lock l).Sound l → (s.lock l).state ≠ .free) (hshared : req = .shared → (s.lock l).sharedAllowed = true ∧ (s.lock l).group = none)
    (hupgrade : req = .upgrade → (s.lock l).Sound l → (s.lock l).state = .shared ∧ p ∈ (s.lock l).holders.map Holder.port ∧
      ∀ x ∈ (s.lock l).queue, x.req ≠ .upgrade) : Change G s (enqueue p l req blocking deadline s) := by
  have hm (w : Waiter) (hw : w.port = p) (hreq : w.req = req) :
      (s.lock l).Moves l { s.lock l with queue := insertWaiter w (s.lock l).queue } :=
    .of_kept (fun h => h.enqueue_sound (hfree h) (hw ▸ hp) (hreq ▸ hshared) fun hu => hw ▸ hupgrade (hreq ▸ hu) h) rfl (.refl _)
  have hflags := LockRec.flags_enqueue (s.lock l) (s.newWaiter p req blocking (deadlineOf deadline))
  simp only [Machine.enqueue]
  cases blocking with
  | true =>
    rw [if_pos rfl]
    refine hr.beginStretch rfl (fun k hk => ?_) ?_ (fun _ => .refl _) (fun _ => ?_) ?_
    · rw [State.lock_setLock, if_neg hk.symm]
    · rw [State.lock_setLock, if_pos rfl]
    · rw [State.lock_setLock, if_pos rfl]
      exact hflags
    · rw [State.lock_setLock, if_pos rfl]
      exact hm _ rfl rfl
  | false =>
    rw [if_neg (by simp)]
    refine hr.change_respond (l := l) (LockOp.enter (by rfl) hp (fun _ => hflags) fun _ hw => hw.2) ?_ _ _
    rw [State.lock_setLock, if_pos rfl]
    exact hm _ rfl rfl

theorem State.Ready.startHandover (hr : s.Ready G p) (blocking : Bool) (hp : (s.lock l).waitsFor p = false)
    (hs : (s.lock l).state = .free) (hg : (s.lock l).group ≠ none) : Change G s (startHandover p l blocking s) := by
  set w := s.newWaiter p .exclusive blocking none with hw
  set lk : LockRec := { s.lock l with state := .handover, target := some w } with hlk
  have hm : (s.lock l).Moves l lk := .of_kept (fun h => h.handover_sound hs hg rfl rfl) rfl (.refl _)
  have hflags (h : (s.lock l).Sound l) : lk.flags.Perm ((p, blocking) :: (s.lock l).flags) :=
    LockRec.flags_handover (h.target_eq_none (by simp [hs])) w
  have horder (k : LockId) : ((s.setLock l lk).sendOrder l (.makeRoute p)).lock k = (s.setLock l lk).lock k := by
    rw [State.sendOrder_frame]
    rfl
  simp only [Machine.startHandover, ← hw, ← hlk]
  cases blocking with
  | true =>
    rw [if_pos rfl]
    refine hr.beginStretch ?_ (fun k hk => ?_) ?_ (LockOp.sendOrder (A := True) (s.setLock l lk) l (.makeRoute p)).group (fun h => ?_) ?_
    · rw [State.sendOrder_frame]
      rfl
    · rw [horder, State.lock_setLock, if_neg hk.symm]
    · rw [horder, State.lock_setLock, if_pos rfl]
    · rw [horder, State.lock_setLock, if_pos rfl]
      exact hflags h
    · rw [horder, State.lock_setLock, if_pos rfl]
      exact hm
  | false =>
    rw [if_neg (by simp)]
    refine hr.change_respond (l := l) ((LockOp.enter (by rfl) hp (fun h => hflags h.1) fun _ _ _ => rfl).then (.sendOrder _ l _)) ?_ _ _
    rw [horder, State.lock_setLock, if_pos rfl]
    exact hm

/-- A SHARED holder without a waiter entry asks EXCLUSIVE (R30, R31). -/
theorem State.Ready.upgrade {h : Holder} (hr : s.Ready G p) (hh : (s.lock l).holderOf p = some h) (hmode : h.mode = .shared)
    (hp : (s.lock l).waitsFor p = false) (wait : WaitMode) (deadline : Word16) : Change G s (upgrade p l wait deadline s) := by
  obtain ⟨hmem, hport⟩ := LockRec.holderOf_eq_some hh
  have hheld : p ∈ (s.lock l).holders.map Holder.port := List.mem_map.mpr ⟨h, hmem, hport⟩
  have hshared (hs : (s.lock l).Sound l) : (s.lock l).state = .shared := by
    obtain ⟨hexcl, -, hnone, -⟩ := hs.holders
    by_contra hne
    by_cases hx : (s.lock l).state = .exclusive
    · have := (hexcl hx).2 h hmem
      simp [hmode] at this
    · simp [hnone hx hne] at hmem
  unfold Machine.upgrade
  split
  · next hlen =>
    obtain ⟨y, hy⟩ := List.length_eq_one_iff.mp hlen
    have hsole : ∀ x ∈ (s.lock l).holders, x.port = p := by
      rw [hy] at hmem ⊢
      rw [List.mem_singleton] at hmem
      simp [← hmem, hport]
    refine hr.grantAtOnce (fun hs => .inr (hshared hs)) (fun hs w hw hu => ?_) (fun _ _ => hsole) nofun
    obtain ⟨x, hx, hxw⟩ := List.mem_map.mp (hs.settling.upgrade w hw hu).2
    have hq : p ∈ (s.lock l).queue.map Waiter.port := hsole x hx ▸ hxw ▸ List.mem_map_of_mem hw
    rw [← Bool.not_eq_true, LockRec.waitsFor_iff] at hp
    exact hp (.inl hq)
  · split
    · exact (hr.refuse _).change
    · next hno =>
      have hwait (b : Bool) : Change G s (Machine.enqueue p l .upgrade b deadline s) :=
        hr.enqueue b hp (fun hsound => by simp [hshared hsound]) nofun fun _ hsound => ⟨hshared hsound, hheld, by simpa using hno⟩
      cases wait with
      | tryNow => exact (hr.refuse _).change
      | queue => exact hwait false
      | block => exact hwait true

/-- A request of a port with no standing at the lock (R10 to R13). -/
theorem State.Ready.freshRequest {m : Mode} (hr : s.Ready G p) (hmode : ¬(m = .shared ∧ s.refusesShared l = true))
    (hp : (s.lock l).waitsFor p = false) (wait : WaitMode) (deadline : Word16) : Change G s (freshRequest p l m wait deadline s) := by
  have hshared (hm : m = .shared) : (s.lock l).sharedAllowed = true ∧ (s.lock l).group = none := by
    have hno : ¬ s.refusesShared l = true := fun h => hmode ⟨hm, h⟩
    rw [State.refusesShared_iff, not_or, not_or] at hno
    exact ⟨by simpa using hno.2.1, not_not.mp hno.2.2⟩
  by_cases hfree : (s.lock l).state = .free
  · cases hg : (s.lock l).group with
    | none =>
      rw [freshRequest_free_unbound hfree hg]
      refine hr.grantAtOnce (fun _ => .inl hfree) (fun hs => ?_) (fun _ hs => ?_) hshared
      · simp [hs.queue_of_free hfree]
      · simp [hs.holders_of_free hfree]
    | some g =>
      rw [freshRequest_free_bound hfree hg]
      exact hr.startHandover _ hp hfree (by simp [hg])
  · by_cases hjoin : m = .shared ∧ (s.lock l).state = .shared ∧ (s.lock l).queue = []
    · obtain ⟨rfl, hs, hq⟩ := hjoin
      rw [freshRequest_join rfl hs hq]
      exact hr.grantAtOnce (fun _ => .inr hs) (fun _ => by simp [hq]) nofun hshared
    · rw [freshRequest_wait hfree hjoin]
      have hwait (b : Bool) : Change G s (Machine.enqueue p l (reqOf m) b deadline s) :=
        hr.enqueue b hp (fun _ => hfree) (by cases m <;> simp [reqOf, hshared]) (by cases m <;> simp [reqOf])
      unfold waitForLock
      cases wait with
      | tryNow => dsimp only; split <;> exact (hr.refuse _).change
      | queue => exact hwait false
      | block => exact hwait true

theorem State.Ready.acquireAt (hr : s.Ready G p) (l : LockId) (m : Mode) (wait : WaitMode) (deadline : Word16) :
    Change G s (acquireAt p l m wait deadline s) := by
  unfold Machine.acquireAt
  split
  · exact (hr.refuse _).change
  · next hmode =>
    split
    · next h hh =>
      split
      · exact (hr.refuse _).change
      · next hheld =>
        split
        · exact (hr.refuse _).change
        · next hp =>
          rw [not_or] at hheld
          exact hr.upgrade hh (by cases hx : h.mode <;> simp_all) (by simpa using hp) wait deadline
    · split
      · exact (hr.refuse _).change
      · next hp => exact hr.freshRequest hmode (by simpa using hp) wait deadline

theorem State.Ready.carryAcquire (hr : s.Ready G p) (lock mode wait : Byte) (deadline : Word16) :
    Change G s (carryAcquire p lock mode wait deadline s) := by
  unfold Machine.carryAcquire
  split
  · exact hr.acquireAt _ _ _ _
  · exact (hr.refuse _).change

/-! ### RELEASE, CANCEL, DOWNGRADE, FORCE_RELEASE -/

/-- The release path of ports that hold the lock (R14). -/
theorem LockOp.released {A : Prop} {ports : List Port} (hA : A → (s.lock l).Sound l) (hports : ∃ x ∈ (s.lock l).holders, x.port ∈ ports)
    (k : Option Port) :
    LockOp A l (fun _ => False) s (s.releasePath l ports k) ∧ (s.lock l).Moves l ((s.releasePath l ports k).lock l) := by
  refine ⟨.releasePath s l ports k fun ha => (hA ha).target_eq_none fun hs => ?_, ?_⟩
  · obtain ⟨x, hx, -⟩ := hports
    rw [(hA ha).holders_eq_nil (by simp [hs]) (by simp [hs])] at hx
    cases hx
  · rw [State.lock_releasePath]
    exact .released hports

theorem State.Ready.carryRelease (hr : s.Ready G p) (lock : Byte) (generation : Word16) :
    Change G s (carryRelease p lock generation s) := by
  unfold Machine.carryRelease
  split
  · exact (hr.refuse _).change
  · next l _ =>
    split
    · exact (hr.refuse _).change
    · next h hh =>
      obtain ⟨hmem, hport⟩ := LockRec.holderOf_eq_some hh
      split
      · exact (hr.refuse _).change
      · obtain ⟨hop, hm⟩ := LockOp.released (s := s) (l := l) (ports := [p]) And.left ⟨h, hmem, by simp [hport]⟩ none
        exact hr.change_respond hop hm _ _

/-- In a queue where no port stands twice an entry stands apart from the others. -/
theorem perm_cons_filter_port {queue : List Waiter} {w : Waiter} (hnodup : (queue.map Waiter.port).Nodup) (hw : w ∈ queue) :
    queue.Perm (w :: queue.filter fun x => decide (x.port ≠ w.port)) := by
  induction queue with
  | nil => cases hw
  | cons x xs ih =>
    obtain ⟨hx, hxs⟩ := List.nodup_cons.mp hnodup
    obtain rfl | hw := List.mem_cons.mp hw
    · rw [List.filter_cons_of_neg (by simp), List.filter_eq_self.mpr fun y hy => ?_]
      have hne : y.port ≠ w.port := fun h => hx (h ▸ List.mem_map_of_mem hy)
      simpa using hne
    · have hne : x.port ≠ w.port := fun h => hx (h ▸ List.mem_map_of_mem hw)
      rw [List.filter_cons_of_pos (by simpa using hne)]
      exact ((ih hxs hw).cons x).trans (.swap _ _ _)

/-- The entry of a port leaves the queue (R29). -/
theorem LockOp.withoutWaiter {A : Prop} {w : Waiter} (hw : (s.lock l).waiterOf p = some w) :
    LockOp A l (fun q => q = p ∧ w.blocking = true) s (s.setLock l ((s.lock l).withoutWaiter p)) := by
  obtain ⟨hmem, rfl⟩ := LockRec.waiterOf_eq_some hw
  refine (LockOp.setLock_of_perm (lk := (s.lock l).withoutWaiter w.port) [(w.port, w.blocking)] (by rfl) (fun _ ho => ?_)
    fun _ ho => ho.2).mono fun q hq => ?_
  · have hnodup := ho.1
    rw [LockRec.flags_ports] at hnodup
    exact ((perm_cons_filter_port hnodup.of_append_left hmem).append_right _).map fun w => (w.port, w.blocking)
  · rw [List.mem_singleton, Prod.mk.injEq] at hq
    exact ⟨hq.1, hq.2.symm⟩

/-- A blocking entry of a port in the queue blocks. -/
theorem LockRec.blocks_of_waiter {lk : LockRec} {w : Waiter} (hw : w ∈ lk.queue) (hb : w.blocking = true) : lk.blocks w.port = true := by
  rw [LockRec.blocks_iff, LockRec.flags, ← hb]
  exact List.mem_map_of_mem (List.mem_append_left _ hw)

theorem LockRec.blocks_of_target {lk : LockRec} {w : Waiter} (hw : lk.target = some w) (hb : w.blocking = true) :
    lk.blocks w.port = true := by
  rw [LockRec.blocks_iff, LockRec.flags, ← hb]
  exact List.mem_map_of_mem (f := fun w : Waiter => (w.port, w.blocking)) (List.mem_append_right _ (by simp [hw]))

theorem State.Ready.carryCancel (hr : s.Ready G p) (lock : Byte) : Change G s (carryCancel p lock s) := by
  unfold Machine.carryCancel
  split
  · exact (hr.refuse _).change
  · next l _ =>
    split
    · next hw =>
      obtain ⟨w, hw⟩ := Option.isSome_iff_exists.mp hw
      obtain ⟨hmem, hport⟩ := LockRec.waiterOf_eq_some hw
      refine hr.change_respond (l := l) (((LockOp.withoutWaiter hw).then (.grantPass _ l none)).settled ?_) ?_ _ _
      · rintro ⟨-, hno⟩ q ⟨-, hb⟩
        rw [← hport, LockRec.blocks_of_waiter hmem hb] at hno
        cases hno
      · rw [State.lock_grantPass_self, State.lock_setLock, if_pos rfl]
        exact .passed (fun h => (h.withoutWaiter_sound p).settling) rfl (.refl _)
    · split
      · next ht =>
        cases hw : (s.lock l).target with
        | none => simp [LockRec.isTarget, hw] at ht
        | some w =>
          have hport : w.port = p := by simpa [LockRec.isTarget, hw] using ht
          refine hr.change_respond (l := l) ((LockOp.vacate (some p) (by rfl) (by rfl)).settled ?_) ?_ _ _
          · rintro ⟨-, hno⟩ q ⟨x, hx, hq, hb⟩
            obtain rfl := Option.some.inj (hw.symm.trans hx)
            rw [← hport, LockRec.blocks_of_target hw hb] at hno
            cases hno
          · rw [State.lock_vacate]
            exact .aborted hw p
      · exact (hr.refuse _).change

end

end Sys2Proof.Machine
end

section
/-! The remaining frames, as changes that keep the invariants; then every frame that is carried out. -/

namespace Sys2Proof.Machine

section
variable {G : Scope} {s t v : State} {p : Port} {l : LockId}

/-! ### DOWNGRADE, FORCE_RELEASE and SET_LOCK_ATTR -/

theorem State.Ready.carryDowngrade (hr : s.Ready G p) (lock : Byte) (generation : Word16) :
    Change G s (carryDowngrade p lock generation s) := by
  unfold Machine.carryDowngrade
  split
  · exact (hr.refuse _).change
  · next l _ =>
    split
    · exact (hr.refuse _).change
    · next hshared =>
      split
      · exact (hr.refuse _).change
      · next h hh =>
        split
        · exact (hr.refuse _).change
        · next hmode =>
          split
          · exact (hr.refuse _).change
          · rw [State.refusesShared_iff, not_or, not_or, not_not] at hshared
            have hallowed : (s.lock l).sharedAllowed = true ∧ (s.lock l).group = none := ⟨by simpa using hshared.2.1, hshared.2.2⟩
            have hm : h.mode = .exclusive := not_not.mp hmode
            obtain ⟨hmem, -⟩ := LockRec.holderOf_eq_some hh
            refine hr.change_respond (l := l) (LockOp.then (LockOp.setLock_of_flags (by rfl) (by rfl) fun ha _ ht => ?_)
              (.grantPass _ l none)) ?_ _ _
            · have hs := (ha.1.sole_exclusive hmem hm).1
              have hnone := ha.1.target_eq_none (by simp [hs])
              simp [LockRec.downgraded, hnone] at ht
            · rw [State.lock_grantPass_self, State.lock_setLock, if_pos rfl]
              exact .downgraded hh hm hallowed

theorem State.lock_postRevoked (s : State) (l k : LockId) (reason : RevokeReason) (hs : List Holder) :
    (s.postRevoked l reason hs).lock k = s.lock k := by
  induction hs generalizing s with
  | nil => rfl
  | cons h hs ih => exact ih _

theorem State.Ready.carryForceRelease (hr : s.Ready G p) (lock : Byte) : Change G s (carryForceRelease p lock s) := by
  unfold Machine.carryForceRelease
  split
  · exact (hr.refuse _).change
  · next l _ =>
    split
    · exact (hr.refuse _).change
    · dsimp only
      split
      · exact (hr.refuse _).change
      · next hne =>
        obtain ⟨x, hx⟩ := List.exists_mem_of_ne_nil _ hne
        have hlock (hs : List Holder) := s.lock_postRevoked l l .forced hs
        obtain ⟨hop, hm⟩ := LockOp.released (s := s.postRevoked l .forced (s.lock l).holders) (l := l)
          (A := (s.lock l).Sound l ∧ (s.lock l).blocks p = false) (ports := (s.lock l).holders.map (·.port)) (by rw [hlock]; exact And.left)
          ⟨x, by rwa [hlock], List.mem_map_of_mem hx⟩ none
        rw [hlock] at hm
        exact hr.change_respond ((LockOp.postRevoked s l .forced _).then hop) hm _ _

theorem State.Ready.carrySetLockAttr (hr : s.Ready G p) (lock shared : Byte) (hold : Word16) :
    Change G s (carrySetLockAttr p lock shared hold s) := by
  unfold Machine.carrySetLockAttr
  split
  · next l allowed _ _ =>
    split
    · exact (hr.refuse _).change
    · next hl =>
      split
      · exact (hr.refuse _).change
      · next huse =>
        refine hr.change_respond (l := l) ?_ ?_ _ _
        · exact LockOp.setLock_of_flags rfl rfl fun _ hw => hw.2
        · rw [State.lock_setLock, if_pos rfl]
          exact .attributes hl fun ha => by simpa [ha] using huse
  · exact (hr.refuse _).change

/-! ### The binding of a lock to a group -/

/-- A group and a lock are joined or parted (R76, R77). -/
theorem Change.of_binding {g : GroupId} {x : Group} {lk : LockRec} (hflags : lk.flags = (s.lock l).flags)
    (hsound : (s.group g).Sound → x.Sound) (hsteady : (s.group g).Sound → (s.group g).Steady x)
    (hbindings : s.GroupsSound → s.BindingsAgree → ((s.setGroup g x).setLock l lk).BindingsAgree) (hm : (s.lock l).Moves l lk) :
    Change G s ((s.setGroup g x).setLock l lk) := by
  have hgroup (k : GroupId) : ((s.setGroup g x).setLock l lk).group k = if g = k then x else s.group k := by simp
  have hlock (k : LockId) : ((s.setGroup g x).setLock l lk).lock k = if l = k then lk else s.lock k := by simp
  have hblocks (k : LockId) (q : Port) : (((s.setGroup g x).setLock l lk).lock k).blocks q = (s.lock k).blocks q := by
    rw [hlock]
    split
    · next hk => rw [Bool.eq_iff_iff, LockRec.blocks_iff, LockRec.blocks_iff, hflags, hk]
    · rfl
  exact {
    pending := rfl
    sessions := fun hs => hs
    posts := fun hs => hs
    pool := fun _ hs => hs
    restart := fun _ hs => hs
    stretches := fun _ he hs => ⟨he, fun q => by simp only [hblocks]; exact hs q⟩
    groups := fun hs k => by
      rw [hgroup]
      split
      · exact hsound (hs g)
      · exact hs k
    bindings := hbindings
    leases := fun _ _ _ _ hs => hs
    locks := fun hs k => by
      rw [hlock]
      split
      · next hk => exact hk ▸ hm.sound (hs l)
      · exact hs k
    lines := fun hs k => by
      rw [hgroup]
      split
      · next hk => exact hk ▸ hsteady (hs g)
      · exact .refl _
    grants := fun _ hs k => by
      rw [hlock]
      split
      · next hk => exact hk ▸ hm.grants (hs l)
      · exact LockRec.grants_of_kept rfl (.refl _) }

/-- A group that is UNBOUND names no lock, and drives no line (R58, R59). -/
theorem Group.Sound.of_unbound {g : Group} (h : g.Sound) (hs : g.state = .unbound) : g.lock = none ∧ g.enable = false := by
  obtain ⟨⟨hlines, -⟩, hlock, -⟩ := h
  exact ⟨by simpa [hs] using hlock, (hlines hs).1⟩

theorem Group.Sound.bound {g : Group} (h : g.Sound) (hl : l ≠ 0) {guardTime : Byte} (hg : guardTime ≠ 0) (confirmTime : Byte) :
    (g.bound l guardTime confirmTime).Sound := by
  obtain ⟨-, -, -, -, -, h6, h7⟩ := h
  exact ⟨by simp [Group.LinesFit, Group.bound], by simp [Group.bound], by simpa [Group.bound] using hl, by simpa [Group.bound] using hg,
    nofun, h6, h7⟩

theorem Group.Sound.parted {g : Group} (h : g.Sound) (he : g.enable = false) : g.unbound.Sound := by
  obtain ⟨-, -, -, -, -, h6, h7⟩ := h
  exact ⟨by simp [Group.LinesFit, Group.unbound, he], by simp [Group.unbound], by simp [Group.unbound], by simp [Group.unbound], nofun,
    h6, h7⟩

theorem State.Ready.carryBindRoute (hr : s.Ready G p) (group lock guardTime confirmTime : Byte) :
    Change G s (carryBindRoute p group lock guardTime confirmTime s) := by
  unfold Machine.carryBindRoute
  split
  · next g l _ _ =>
    split
    · exact (hr.refuse _).change
    · next hrange =>
      rw [not_or] at hrange
      split
      · exact (hr.refuse _).change
      · next hb =>
        rw [Bool.not_eq_false, bindable_iff] at hb
        obtain ⟨hg, hnone, hfree, -⟩ := hb
        refine Change.then ?_ (.respond (by exact hr.state) (by exact hr.not_stages) _ _)
        refine .of_binding rfl (fun h => h.bound hrange.1 hrange.2 _) (fun h => ?_) (fun hs hagree k j => ?_) ?_
        · exact ⟨(h.of_unbound hg).2.symm, fun _ => (h.of_unbound hg).2⟩
        · have hnoLock := ((hs g).of_unbound hg).1
          have hk := hagree k j
          by_cases hgk : g = k <;> by_cases hlj : l = j
          · simp [hgk, hlj, Group.bound]
          · subst hgk
            rw [hnoLock] at hk
            simpa [hlj, Group.bound] using hk
          · subst hlj
            rw [hnone] at hk
            simpa [hgk] using hk
          · simpa [hgk, hlj] using hk
        · exact .of_kept (fun h => h.bound_sound hrange.1 hfree g) rfl (.refl _)
  · exact (hr.refuse _).change

theorem State.Ready.carryUnbindRoute (hr : s.Ready G p) (group : Byte) : Change G s (carryUnbindRoute p group s) := by
  unfold Machine.carryUnbindRoute
  split
  · exact (hr.refuse _).change
  · next g _ =>
    split
    · exact (hr.refuse _).change
    · split
      · exact (hr.refuse _).change
      · next l hl =>
        split
        · exact (hr.refuse _).change
        · next hu =>
          rw [Bool.not_eq_false, unbindable_iff] at hu
          obtain ⟨hstates, hq⟩ := hu
          have henable (h : (s.group g).Sound) : (s.group g).enable = false := by
            obtain ⟨⟨-, hbroken, -, -, -, hfault⟩, -⟩ := h
            obtain ⟨hs, -⟩ | ⟨hs, -⟩ := hstates
            · exact (hbroken hs).1
            · exact (hfault hs).1
          refine Change.then ?_ (.respond (by exact hr.state) (by exact hr.not_stages) _ _)
          refine .of_binding rfl (fun h => h.parted (henable h)) (fun h => ⟨rfl, fun _ => henable h⟩) (fun hs hagree k j => ?_) ?_
          · have hk := hagree k j
            have hself := (hagree g l).mp hl
            by_cases hgk : g = k <;> by_cases hlj : l = j
            · simp [hgk, hlj, Group.unbound]
            · subst hgk
              rw [hl] at hk
              simpa [hlj, Group.unbound] using hk
            · subst hlj
              rw [hself] at hk
              simpa [hgk] using hk
            · simpa [hgk, hlj] using hk
          · exact .of_kept (fun h => h.unbound_sound (hstates.imp And.right And.right) hq) rfl (.refl _)

theorem State.Ready.carryClearRouteFault (hr : s.Ready G p) (group : Byte) : Local G s (carryClearRouteFault p group s) := by
  unfold Machine.carryClearRouteFault
  split
  · exact hr.refuse _
  · next g _ =>
    split
    · exact hr.refuse _
    · next hf =>
      refine Local.trans ?_ (.respond (by exact hr.state) (by exact hr.not_stages) _ _)
      refine .of_setGroup ⟨fun h => ?_, rfl, rfl, rfl⟩
      have hs : (s.group g).state = .fault := not_not.mp hf
      obtain ⟨⟨-, -, -, -, -, hfault⟩, h2, h3, h4, -, h6⟩ := h
      exact ⟨by simp [Group.LinesFit, hs, (hfault hs).1, GroupTimer.isGuard], h2, h3, h4, fun _ => hs, h6⟩

end

end Sys2Proof.Machine
end

section
/-! Every frame that is carried out, as a change that keeps the invariants. -/

namespace Sys2Proof.Machine

section
variable {G : Scope} {s t v : State} {p : Port}

/-! ### Commands that report, and sessions -/

theorem State.Ready.carryStatus (hr : s.Ready G p) : Local G s (carryStatus p s) := by
  refine Local.trans (.of_moves (Engine.setRecord_moves (s.engine p).memory (s.engine p).resp false).1
    (.inr (Engine.setRecord_moves (s.engine p).memory (s.engine p).resp false).2)) (.respond ?_ ?_ _ _)
  · rw [State.engine_setEngine, if_pos rfl]
    exact hr.state
  · rw [State.engine_setEngine, if_pos rfl]
    exact hr.not_stages

theorem State.Ready.carryQuery (hr : s.Ready G p) (lock : Byte) : Local G s (carryQuery p lock s) := by
  unfold Machine.carryQuery
  split
  · exact hr.refuse _
  · exact hr.respond _ _

theorem State.Ready.carryQueryRoute (hr : s.Ready G p) (group : Byte) : Local G s (carryQueryRoute p group s) := by
  unfold Machine.carryQueryRoute
  split
  · exact hr.refuse _
  · exact hr.respond _ _



theorem State.Ready.carryOpen (hr : s.Ready G p) (lease : Word16) (priority threshold flags : Byte) :
    Local G s (carryOpen p lease priority threshold flags s) := by
  unfold Machine.carryOpen
  split
  · next prio enable _ _ =>
    split
    · exact hr.refuse _
    · next hrange =>
      simp only [within_eq_false, not_or, not_not] at hrange
      obtain ⟨⟨h1, h2⟩, -, h3⟩ := hrange
      split
      · exact hr.refuse _
      · have hopen : Local G s (s.setSession p ((s.session p).opening lease prio threshold enable)) :=
          .of_opened hr.state hr.wait hr.restart rfl (Session.opening_sound h1 h2 h3 prio enable)
        refine (hopen.trans (.tellPeers _ _ none _)).trans (.respond ?_ ?_ _ _)
        · rw [State.tellPeers_frame]
          exact hr.state
        · rw [State.tellPeers_frame]
          exact hr.not_stages
  · exact hr.refuse _

theorem Engine.Sound.stageDeferred_eq_false {e : Engine} (h : e.Sound) (hw : e.wait = .nothing) : e.stageDeferred = false := by
  obtain ⟨-, -, -, -, -, hdeferred, -⟩ := h
  by_contra hd
  simpa [hw, ExecWait.defersStage] using hdeferred (by simpa using hd)

/-- A teardown begins, and the engine of the frame waits for its end (R93, R95). -/
theorem State.Ready.beginTeardown (hr : s.Ready G p) {q : Port} (ho : (s.session q).state = .opened) {reason : EndReason}
    (h1 : reason ≠ .noReason) (h2 : reason ≠ .restart) (awaiter : Option Port) {w : ExecWait} (hw : w.inRange = true) :
    Local G s ((s.beginTeardown q reason awaiter).waitFor p w) := by
  refine Local.trans (.of_setSession (Session.beginTeardown_moves ho h1 h2 awaiter)) (.waitFor (by exact hr.state) ?_ (fun _ => hw) ?_)
  · rw [State.engine_setSession, hr.wait]
    exact nofun
  · intro hsound hd
    rw [State.engine_setSession] at hsound hd
    rw [hsound.stageDeferred_eq_false hr.wait] at hd
    cases hd

theorem State.Ready.carryClose (hr : s.Ready G p) : Local G s (carryClose p s) := by
  unfold Machine.carryClose
  split
  · next ho => exact hr.beginTeardown ho (by simp) (by simp) _ rfl
  · exact hr.respond _ _

theorem State.Ready.carryExpel (hr : s.Ready G p) (port : Byte) : Local G s (carryExpel p port s) := by
  unfold Machine.carryExpel
  split
  · exact hr.refuse _
  · split
    · exact hr.refuse _
    · next h =>
      rw [not_or, Bool.not_eq_false] at h
      exact hr.beginTeardown (by simpa [State.present] using h.2) (by simp) (by simp) _ rfl

/-! ### Messages and notices -/

/-- The destinations of a SEND are other ports, each once (R112). -/
theorem State.destinations_spec {dest : Byte} {target : Option Port} (h : destArg p dest = some target) :
    (s.destinations p target).Nodup ∧ p ∉ s.destinations p target := by
  cases target with
  | none =>
    have hdest : s.destinations p none = allPorts.filter fun q => decide (q ≠ p) && s.present q := rfl
    rw [hdest]
    exact ⟨(List.nodup_finRange 4).filter _, by simp⟩
  | some q =>
    have hq : q ≠ p := by
      unfold destArg at h
      split at h
      · cases h
      · split at h
        · split at h
          · cases h
          · next hne => exact Option.some.inj (Option.some.inj h) ▸ hne
        · cases h
    have hdest : s.destinations p (some q) = if s.present q = true then [q] else [] := rfl
    rw [hdest]
    split <;> simp [hq.symm]

theorem State.Ready.carrySend (hr : s.Ready G p) (dest tag flags : Byte) {payload : List Byte}
    (hlen : G.lengths → payload.length ≤ 16) : Local G s (carrySend p dest tag flags payload s) := by
  unfold Machine.carrySend
  split
  · next target receipt hdest _ =>
    obtain ⟨hnodup, hp⟩ := State.destinations_spec (s := s) hdest
    dsimp only
    split
    · exact hr.refuse _
    · next hne =>
      split
      · exact hr.refuse _
      · next hfull =>
        split
        · exact hr.refuse _
        · split
          · exact hr.refuse _
          · next c hc =>
            have hfree : s.cell c = none := by simpa [State.cellFree] using List.find?_some hc
            refine Local.trans (.of_messages ?_ (fun hG h => h.send hfree hnodup hp hne (fun q hq => ?_) rfl (hlen hG) rfl) ?_)
              (.respond ?_ ?_ _ _)
            · rw [State.appendReferences_frame]
              rfl
            · simp only [List.any_eq_true, not_exists, not_and, State.queueFull, decide_eq_true_eq, not_le] at hfull
              exact hfull q hq
            · rw [State.appendReferences_frame]
              exact fun _ => .inl
            · rw [State.appendReferences_frame]
              exact hr.state
            · rw [State.appendReferences_frame]
              exact hr.not_stages
  · exact hr.refuse _

theorem State.Ready.carryTake (hr : s.Ready G p) : Local G s (carryTake p s) := by
  unfold Machine.carryTake
  split
  · exact hr.respond _ _
  · next c rest hq =>
    refine Local.trans (.of_messages ?_ (fun _ h => h.take hq .taken none) (State.release_posts _ c .taken none)) (.respond ?_ ?_ _ _)
    · rw [State.release_frame]
      rfl
    · rw [State.release_frame]
      exact hr.state
    · rw [State.release_frame]
      exact hr.not_stages

theorem State.Ready.carryPeek (hr : s.Ready G p) : Local G s (carryPeek p s) := by
  unfold Machine.carryPeek
  split
  · exact hr.respond _ _
  · exact hr.respond _ _

theorem State.Ready.carryFlush (hr : s.Ready G p) : Local G s (carryFlush p s) := by
  refine (Local.flushQueue s p none).trans (.respond ?_ ?_ _ _)
  · rw [State.engine_flushQueue]
    exact hr.state
  · rw [State.flushQueue_frame]
    exact hr.not_stages

theorem State.Ready.carryTakeNotice (hr : s.Ready G p) : Local G s (carryTakeNotice p s) := by
  unfold Machine.carryTakeNotice
  dsimp only
  split
  · exact Local.trans (.of_setNoticeQueue fun _ => Nat.zero_le _) (.respond (by exact hr.state) (by exact hr.not_stages) _ _)
  · next n rest hq =>
    refine Local.trans (.of_setNoticeQueue fun hlen => ?_) (.respond (by exact hr.state) (by exact hr.not_stages) _ _)
    rw [hq] at hlen
    exact (Nat.le_succ _).trans hlen

/-! ### Configuration -/

theorem State.Ready.carrySetPortLimits (hr : s.Ready G p) (port cap quota sendCap stretch : Byte) :
    Local G s (carrySetPortLimits p port cap quota sendCap stretch s) := by
  unfold Machine.carrySetPortLimits
  split
  · split
    · exact hr.refuse _
    · next hrange =>
      simp only [within_eq_false, not_or, not_not] at hrange
      obtain ⟨⟨h1, h2⟩, ⟨h3, h4⟩, h5, h6⟩ := hrange
      have hlimits : limitsInRange quota sendCap stretch := ⟨h1, h2, h3, h4, h5, h6⟩
      refine Local.trans (.of_setLimit hlimits) (.waitFor (by exact hr.state) ?_ (fun _ => decide_eq_true hlimits) fun _ _ => rfl)
      rw [State.engine_setLimit, hr.wait]
      exact nofun
  · exact hr.refuse _

/-- A RESTART begins: the other engines take its first stage, and its requester waits (R158). -/
theorem State.Ready.carryRestart (hr : s.Ready G p) : Local G s (carryRestart p s) := by
  have hengine (q : Port) : (s.firstStage p).engine q = if q = p then s.engine q else (s.engine q).takeFirstStage :=
    State.engine_firstStage s p q
  have hfirst : Local G s (s.firstStage p) := by
    have hmoves (q : Port) : (s.engine q).Moves ((s.firstStage p).engine q) ∧ (s.engine q).KeepsStages ((s.firstStage p).engine q) := by
      rw [hengine]
      split
      · exact ⟨.refl _, .refl _⟩
      · exact Engine.takeFirstStage_moves _
    exact .of_engines rfl (fun q => (hmoves q).1.sound) (fun q => (hmoves q).1.keepsStretch)
      (fun h q => (hmoves q).1.inRange_of (h.engine_inRange q)) (.inr fun q => (hmoves q).2) fun _ q => (hmoves q).1.keepsTimer
  have hself : (s.firstStage p).engine p = s.engine p := by rw [hengine, if_pos rfl]
  have hready : (s.firstStage p).Ready G p := ⟨hself ▸ hr.state, hself ▸ hr.wait, hr.restart, hr.lease⟩
  refine (hfirst.trans (hready.waitFor (w := .restartStages) fun _ => rfl)).trans
    (.of_restart (r := some { requester := p, sessionTaken := false, lockTaken := false, messageTaken := false, noticeTaken := false }) ?_)
  rintro - - r hmem
  obtain rfl := Option.some.inj hmem
  have hwait : ((s.firstStage p).waitFor p .restartStages).engine p = { s.engine p with wait := .restartStages } := by
    rw [State.waitFor, State.engine_setEngine, if_pos rfl, hself]
  exact ⟨(congrArg Engine.state hwait).trans hr.state, congrArg Engine.wait hwait, nofun⟩

/-! ### Every command -/

/-- A command past the common checks (R173). -/
theorem State.Ready.carryOut (hr : s.Ready G p) {cmd : HostCommand} (hlen : G.lengths → cmd.lenAccepted = true) :
    Change G s (carryOut p cmd s) := by
  cases cmd with
  | status => exact hr.carryStatus.change
  | openSession => exact (hr.carryOpen _ _ _ _).change
  | close => exact hr.carryClose.change
  | acquire => exact hr.carryAcquire _ _ _ _
  | release => exact hr.carryRelease _ _
  | cancel => exact hr.carryCancel _
  | downgrade => exact hr.carryDowngrade _ _
  | query => exact (hr.carryQuery _).change
  | holdings => exact (hr.respond _ _).change
  | send dest tag flags payload => exact (hr.carrySend dest tag flags fun h => of_decide_eq_true (hlen h)).change
  | take => exact hr.carryTake.change
  | peek => exact hr.carryPeek.change
  | flush => exact hr.carryFlush.change
  | takeNotice => exact hr.carryTakeNotice.change
  | setLockAttr => exact hr.carrySetLockAttr _ _ _
  | setPortLimits => exact (hr.carrySetPortLimits _ _ _ _ _).change
  | bindRoute => exact hr.carryBindRoute _ _ _ _
  | unbindRoute => exact hr.carryUnbindRoute _
  | clearRouteFault => exact (hr.carryClearRouteFault _).change
  | forceRelease => exact hr.carryForceRelease _
  | expel => exact (hr.carryExpel _).change
  | restart => exact hr.carryRestart.change
  | queryRoute => exact (hr.carryQueryRoute _).change

end

end Sys2Proof.Machine
end

section
/-! Frames that come in and the third stage of RESTART, as changes that keep the invariants. -/

namespace Sys2Proof.Machine

section
variable {G : Scope} {s t u : State} {p : Port} {cmd : HostCommand}

/-! ### A frame that comes in -/

theorem Engine.Moves.trans {e e' e'' : Engine} (h : e.Moves e') (h' : e'.Moves e'') : e.Moves e'' where
  sound := h'.sound ∘ h.sound
  stretched := h'.stretched.trans h.stretched
  stretchLock := h'.stretchLock.trans h.stretchLock
  handed := h'.handed.trans h.handed
  stretchCopy := h'.stretchCopy.trans h.stretchCopy
  inRange := h'.inRange ∘ h.inRange
  timer hs :=
    have ⟨h1, h2⟩ := h.timer hs
    have ⟨h1', h2'⟩ := h'.timer (h.stretched.mpr hs)
    ⟨h1'.trans h1, h2'.trans h2⟩

theorem Engine.KeepsStages.trans {e e' e'' : Engine} (h : e.KeepsStages e') (h' : e'.KeepsStages e'') : e.KeepsStages e'' := fun hs hw =>
  have ⟨hs', hw'⟩ := h hs hw
  h' hs' hw'

/-- The memory takes a new frame (R165). -/
theorem State.Ready.remember (hr : s.Ready G p) (cmd : HostCommand) :
    Local G s (s.remember p cmd) ∧ (s.remember p cmd).Ready G p := by
  refine ⟨.of_moves (Engine.setRecord_moves _ (s.engine p).resp (s.engine p).linkError).1
    (.inr (Engine.setRecord_moves _ (s.engine p).resp (s.engine p).linkError).2), ?_, ?_, hr.restart, hr.lease⟩
  · rw [State.remember, State.engine_setEngine, if_pos rfl]
    exact hr.state
  · rw [State.remember, State.engine_setEngine, if_pos rfl]
    exact hr.wait

theorem State.Ready.sessionAndAuthority (hr : s.Ready G p) (hlen : G.lengths → cmd.lenAccepted = true) :
    Change G s (sessionAndAuthority p cmd (Machine.carryOut p cmd) s) := by
  unfold Machine.sessionAndAuthority
  split
  · exact (hr.refuse _).change
  · split
    · exact (hr.refuse _).change
    · exact hr.carryOut hlen

/-- A frame at the repeat step, whatever becomes of it (R166). -/
theorem State.Ready.repeatStep (hr : s.Ready G p) (hlen : G.lengths → cmd.lenAccepted = true) :
    Change G s (repeatStep p cmd (Machine.carryOut p cmd) s) := by
  obtain ⟨hremember, hr'⟩ := hr.remember cmd
  have hnew := hremember.then (hr'.sessionAndAuthority hlen)
  have hrepeat : Local G s (s.setEngine p (s.engine p).leaveExecuting) :=
    .of_moves (Engine.leaveExecuting_moves hr.state) (hr.not_stages.imp_right fun hw _ h => absurd h hw)
  unfold Machine.repeatStep
  split
  · split
    · split
      · exact hrepeat.change
      · exact (hr.respond _ _).change
    · exact hnew
  · exact hnew

/-- A frame of a host, whatever becomes of it (R173, R180, R184, R158). -/
theorem runFrame_change (s : State) (p : Port) (seq : Byte) (cmd : HostCommand) :
    Change .all s (runFrame p seq cmd (carryOut p cmd) s) := by
  have hopen := Engine.openFrame_moves (s.engine p) (cmd.frameBytes seq)
  unfold runFrame
  split
  · exact (Local.refl _ s).change
  · next hscl =>
    have hnot := mt Engine.holdsScl_iff.mpr hscl
    rw [not_or] at hnot
    dsimp only
    split
    · next hlen =>
      set e := ((s.engine p).openFrame (cmd.frameBytes seq)).completeFrame seq with he
      obtain ⟨hmoves, hstages⟩ := Engine.completeFrame_moves (Engine.openFrame_state hnot.1 hnot.2 (cmd.frameBytes seq)) seq
      have hcomplete : Local .all s (s.setEngine p e) := .of_moves (hopen.moves.trans hmoves) (.inr (hopen.keepsStages.trans hstages))
      have hengine : (s.setEngine p e).engine p = e := by rw [State.engine_setEngine, if_pos rfl]
      split
      · refine (hcomplete.trans (.waitFor (w := .heldFrame cmd) ?_ ?_ (fun _ => hlen) fun hsound hd => ?_)).change
        · rw [hengine]
          rfl
        · rw [hengine]
          exact nofun
        · rw [hengine] at hsound hd
          rw [hsound.stageDeferred_eq_false rfl] at hd
          cases hd
      · next hheld =>
        have hrenew : Local .all (s.setEngine p e) ((s.setEngine p e).renewLease p) := by
          rw [State.renewLease_eq]
          exact .of_setSession (Session.renewed_moves _)
        refine (hcomplete.trans hrenew).then (State.Ready.repeatStep ⟨?_, ?_, fun _ r hr => ?_, fun _ ho => ?_⟩ fun _ => hlen)
        · rw [State.renewLease_eq, State.engine_setSession, hengine]
          rfl
        · rw [State.renewLease_eq, State.engine_setSession, hengine]
          rfl
        · rw [State.renewLease_eq] at hr
          have hr' : s.restart = some r := hr
          have hheld' : (s.setEngine p e).holdsFrames p = s.holdsFrames p := rfl
          simpa [State.holdsFrames, hr'] using hheld
        · rw [State.renewLease_eq, State.session_setSession, if_pos rfl] at ho ⊢
          unfold Session.renewed at ho ⊢
          split
          · rfl
          · next hno => rw [if_neg hno] at ho; exact absurd ho hno
    · exact (Local.of_linkMoves (hopen.trans (Engine.takeBytes_moves _ _))).change

/-! ### The third stage of RESTART -/

/-- A held frame is taken up (R160). -/
theorem Local.takeHeld (hs : (s.engine p).state = .executing) (hw : (s.engine p).wait = .heldFrame cmd) :
    Local G s (s.waitFor p .nothing) := by
  refine .waitFor hs (by simp [hw]) (fun _ => rfl) fun hsound hd => ?_
  obtain ⟨-, -, -, -, -, hdeferred, -⟩ := hsound
  have := (hdeferred hd).2
  simp [hw, ExecWait.defersStage] at this

theorem State.Ready.of_held (hs : (s.engine p).state = .executing) (hrestart : G.fresh → s.restart = none)
    (hclosed : G.leases → (s.session p).state = .closed) : (s.waitFor p .nothing).Ready G p := by
  refine ⟨?_, ?_, fun hG r hr => ?_, fun hG ho => ?_⟩
  · rw [State.waitFor, State.engine_setEngine, if_pos rfl]
    exact hs
  · rw [State.waitFor, State.engine_setEngine, if_pos rfl]
  · have hr' : r ∈ s.restart := hr
    rw [hrestart hG] at hr'
    cases hr'
  · have ho' : (s.session p).state = .opened := ho
    rw [hclosed hG] at ho'
    cases ho'

/-- The release of an engine, in a state of which nothing but the lengths of its held frames is known (R160). -/
theorem State.releaseEngine_change (hfresh : ¬ G.fresh) (hleases : ¬ G.leases) (hpool : G.lengths → u.PoolSound) (p : Port) :
    Change G u (u.releaseEngine p) := by
  by_cases ha : (u.engine p).AwaitsRelease
  · obtain ⟨hs, hw | ⟨cmd, hw⟩⟩ := ha
    · rw [State.releaseEngine_overtaken hs hw]
      exact (Local.of_moves (Engine.leaveExecuting_moves hs) (.inr fun _ h => by simp [hw] at h)).change
    · rw [State.releaseEngine_held hs hw]
      refine (Local.takeHeld hs hw).then ((State.Ready.of_held hs (fun hG => absurd hG hfresh) fun hG => absurd hG hleases).repeatStep
        fun hG => ?_)
      obtain ⟨-, -, hrange⟩ := (hpool hG).engine_inRange p
      rwa [hw] at hrange
  · rw [State.releaseEngine_of_not_awaits ha]
    exact (Local.refl G u).change

theorem State.releaseEngines_change (hfresh : ¬ G.fresh) (hleases : ¬ G.leases) (hpool : G.lengths → u.PoolSound) (ps : List Port) :
    Change G u (u.releaseEngines ps) := by
  induction ps generalizing u with
  | nil => exact (Local.refl G u).change
  | cons p ps ih =>
    have hfirst := State.releaseEngine_change hfresh hleases hpool p
    exact .trans hfresh hfirst (ih fun hG => hfirst.pool hG (hpool hG))

/-- The release of port `p` reaches its own engine and session, and no RESTART (R160). -/
structure State.ReleasedAt (p : Port) (u t : State) : Prop where
  restart : t.restart = u.restart
  engine : ∀ q, q ≠ p → t.engine q = u.engine q
  session : ∀ q, q ≠ p → t.session q = u.session q

theorem State.ReleasedAt.refl (p : Port) (u : State) : u.ReleasedAt p u := ⟨rfl, fun _ _ => rfl, fun _ _ => rfl⟩

theorem State.ReleasedAt.setEngine (h : s.ReleasedAt p u) (e : Engine) : s.ReleasedAt p (u.setEngine p e) :=
  ⟨h.restart, fun q hq => by rw [State.engine_setEngine, if_neg hq.symm, h.engine q hq], h.session⟩

theorem State.ReleasedAt.setSession (h : s.ReleasedAt p u) (x : Session) : s.ReleasedAt p (u.setSession p x) :=
  ⟨h.restart, h.engine, fun q hq => by rw [State.session_setSession, if_neg hq.symm, h.session q hq]⟩

theorem State.ReleasedAt.tellPeers (h : s.ReleasedAt p u) (n : Notice) (k : Option Port) (qs : List Port) :
    s.ReleasedAt p (u.tellPeers n k qs) := by
  rw [State.tellPeers_frame]
  exact ⟨h.restart, h.engine, h.session⟩

theorem Engine.leaveExecuting_not_awaits (e : Engine) : ¬ e.leaveExecuting.AwaitsRelease := by
  obtain ⟨m, r, he⟩ := e.leaveExecuting_eq
  rw [he]
  exact e.freed_not_awaits

/-- The release ends with the engine free. -/
def State.FreedAt (p : Port) (u t : State) : Prop := u.ReleasedAt p t ∧ ¬ (t.engine p).AwaitsRelease

theorem State.ReleasedAt.respond (h : s.ReleasedAt p u) (st : Status) (data : List Byte) : s.FreedAt p (u.respond p st data) := by
  refine ⟨h.setEngine _, ?_⟩
  rw [State.respond, State.engine_setEngine, if_pos rfl]
  exact Engine.leaveExecuting_not_awaits _

theorem State.ReleasedAt.leaveExecuting (h : s.ReleasedAt p u) : s.FreedAt p (u.setEngine p (u.engine p).leaveExecuting) := by
  refine ⟨h.setEngine _, ?_⟩
  rw [State.engine_setEngine, if_pos rfl]
  exact Engine.leaveExecuting_not_awaits _

/-- A command that passes in CLOSED is carried out at its own port (R174). -/
theorem State.Ready.carryOut_closed (hr : u.Ready G p) (hpass : cmd.passesSession .closed = true) (hclosed : (u.session p).state = .closed)
    (h : s.ReleasedAt p u) : Local G u (Machine.carryOut p cmd u) ∧ s.FreedAt p (Machine.carryOut p cmd u) := by
  cases cmd with
  | status => exact ⟨hr.carryStatus, (h.setEngine _).respond _ _⟩
  | openSession lease priority threshold flags =>
    refine ⟨hr.carryOpen _ _ _ _, ?_⟩
    simp only [Machine.carryOut, Machine.carryOpen]
    split
    · split
      · exact h.respond _ _
      · split
        · exact h.respond _ _
        · exact ((h.setSession _).tellPeers _ _ _).respond _ _
    · exact h.respond _ _
  | close =>
    refine ⟨hr.carryClose, ?_⟩
    simp only [Machine.carryOut, Machine.carryClose, hclosed]
    exact h.respond _ _
  | query lock =>
    refine ⟨hr.carryQuery _, ?_⟩
    simp only [Machine.carryOut, Machine.carryQuery]
    split
    · exact h.respond _ _
    · exact h.respond _ _
  | queryRoute group =>
    refine ⟨hr.carryQueryRoute _, ?_⟩
    simp only [Machine.carryOut, Machine.carryQueryRoute]
    split
    · exact h.respond _ _
    · exact h.respond _ _
  | _ => simp [HostCommand.passesSession] at hpass

theorem State.Ready.sessionAndAuthority_closed (hr : u.Ready G p) (hclosed : (u.session p).state = .closed) (h : s.ReleasedAt p u) :
    Local G u (Machine.sessionAndAuthority p cmd (Machine.carryOut p cmd) u) ∧
      s.FreedAt p (Machine.sessionAndAuthority p cmd (Machine.carryOut p cmd) u) := by
  unfold Machine.sessionAndAuthority
  split
  · exact ⟨hr.refuse _, h.respond _ _⟩
  · next hpass =>
    split
    · exact ⟨hr.refuse _, h.respond _ _⟩
    · exact hr.carryOut_closed (by simpa [hclosed] using hpass) hclosed h

/-- A held frame of a port whose session is CLOSED (R160). -/
theorem State.Ready.repeatStep_closed (hr : u.Ready G p) (hclosed : (u.session p).state = .closed) (h : s.ReleasedAt p u) :
    Local G u (Machine.repeatStep p cmd (Machine.carryOut p cmd) u) ∧ s.FreedAt p (Machine.repeatStep p cmd (Machine.carryOut p cmd) u) := by
  obtain ⟨hremember, hr'⟩ := hr.remember cmd
  obtain ⟨hnew, hfreed⟩ := hr'.sessionAndAuthority_closed (cmd := cmd) hclosed (h.setEngine _)
  unfold Machine.repeatStep
  split
  · split
    · split
      · exact ⟨.of_moves (Engine.leaveExecuting_moves hr.state) (hr.not_stages.imp_right fun hw _ h => absurd h hw), h.leaveExecuting⟩
      · exact ⟨hr.respond _ _, h.respond _ _⟩
    · exact ⟨hremember.trans hnew, hfreed⟩
  · exact ⟨hremember.trans hnew, hfreed⟩

/-- The release of an engine whose session is CLOSED while it waits (R160). -/
theorem State.releaseEngine_closed (hrestart : u.restart = none) (hclosed : (u.engine p).AwaitsRelease → (u.session p).state = .closed) :
    Local G u (u.releaseEngine p) ∧ u.FreedAt p (u.releaseEngine p) := by
  by_cases ha : (u.engine p).AwaitsRelease
  · have hclosed := hclosed ha
    obtain ⟨hs, hw | ⟨cmd, hw⟩⟩ := ha
    · rw [State.releaseEngine_overtaken hs hw]
      exact ⟨.of_moves (Engine.leaveExecuting_moves hs) (.inl hrestart), (State.ReleasedAt.refl p u).leaveExecuting⟩
    · rw [State.releaseEngine_held hs hw]
      obtain ⟨hlocal, hfreed⟩ := (State.Ready.of_held (G := G) hs (fun _ => hrestart) fun _ => hclosed).repeatStep_closed (cmd := cmd)
        hclosed ((State.ReleasedAt.refl p u).setEngine _)
      exact ⟨(Local.takeHeld hs hw).trans hlocal, hfreed⟩
  · rw [State.releaseEngine_of_not_awaits ha]
    exact ⟨.refl G u, .refl p u, ha⟩

theorem State.releaseEngines_closed (hrestart : u.restart = none)
    (hclosed : ∀ q, (u.engine q).AwaitsRelease → (u.session q).state = .closed) (ps : List Port) : Local G u (u.releaseEngines ps) := by
  induction ps generalizing u with
  | nil => exact .refl G u
  | cons p ps ih =>
    obtain ⟨hfirst, hreleased, hfree⟩ := State.releaseEngine_closed (G := G) hrestart (hclosed p)
    refine hfirst.trans (ih (hreleased.restart.trans hrestart) fun q hq => ?_)
    by_cases hqp : q = p
    · exact absurd (hqp ▸ hq) hfree
    · rw [hreleased.engine q hqp] at hq
      rw [hreleased.session q hqp]
      exact hclosed q hq

/-- The scope of the third stage: what it does hangs on whether the RESTART has kept every session CLOSED, and on the lengths of the held
frames. -/
def State.heldScope (s : State) : Scope := ⟨s.RestartSound, s.RestartSound, s.PoolSound⟩

theorem execRestartThirdStage_change (order : List Port) (s : State) :
    ∃ t, execRestartThirdStage order s = .next t ∧ Change s.heldScope s t := by
  unfold execRestartThirdStage
  split
  · next r hr =>
    split
    · next hcomplete =>
      refine ⟨_, rfl, ?_⟩
      have hend : Local s.heldScope s s.endTeardowns := .of_sessions rfl fun q => by
        rw [State.session_endTeardowns]
        exact Session.endTeardown_moves _
      have hnone : Local s.heldScope s.endTeardowns { s.endTeardowns with restart := none } := .of_restart fun _ _ => nofun
      set v : State := { s.endTeardowns with restart := none } with hv
      have hanswer : Local s.heldScope v (v.answerRestart r.requester) ∧ (v.answerRestart r.requester).restart = none ∧
          (∀ q, (v.answerRestart r.requester).session q = v.session q) := by
        unfold State.answerRestart
        split
        · next hs hw => exact ⟨.respond hs (.inl rfl) _ _, rfl, fun _ => rfl⟩
        · exact ⟨.refl _ v, rfl, fun _ => rfl⟩
      obtain ⟨hanswer, hrestart, hsession⟩ := hanswer
      have hbefore := (hend.trans hnone).trans hanswer
      by_cases hsound : s.RestartSound
      · refine (hbefore.trans (State.releaseEngines_closed hrestart (fun q _ => ?_) _)).change
        obtain ⟨-, -, hclosed⟩ := hsound r hr
        rw [hsession]
        have htaken := (Restart.complete_iff r).mp hcomplete .session
        have hq : v.session q = s.endTeardowns.session q := rfl
        rw [hq, State.session_endTeardowns]
        exact hclosed htaken q
      · exact hbefore.then (State.releaseEngines_change hsound hsound (fun hp => hbefore.pool hp hp) _)
    · exact ⟨s, rfl, (Local.refl _ s).change⟩
  · exact ⟨s, rfl, (Local.refl _ s).change⟩

end

end Sys2Proof.Machine
end

section
/-! The timers and claims at a lock, as changes that keep the invariants. -/

namespace Sys2Proof.Machine

section
variable {A : Prop} {G : Scope} {s t u : State} {p : Port} {l : LockId}

/-! ### The entries of a lock -/

/-- A port whose only entry has left does not block. -/
theorem LockRec.WaitsOnce.blocks_eq_false {a b : LockRec} (h : a.WaitsOnce) {x : Bool} (hp : a.flags.Perm ((p, x) :: b.flags)) :
    b.blocks p = false := by
  have hnodup := (hp.map Prod.fst).nodup_iff.mp h.1
  rw [List.map_cons, List.nodup_cons] at hnodup
  rw [← Bool.not_eq_true, LockRec.blocks_iff]
  intro hb
  have hmem := List.mem_map_of_mem (f := Prod.fst) hb
  exact hnodup.1 hmem

theorem LockRec.WaitsOnce.flags_withoutWaiter {lk : LockRec} (h : lk.WaitsOnce) {w : Waiter} (hw : w ∈ lk.queue) :
    lk.flags.Perm ((w.port, w.blocking) :: (lk.withoutWaiter w.port).flags) := by
  have hnodup := h.1
  rw [LockRec.flags_ports] at hnodup
  exact ((perm_cons_filter_port hnodup.of_append_left hw).append_right _).map fun w => (w.port, w.blocking)

theorem LockRec.flags_withoutTarget {lk : LockRec} {w : Waiter} (hw : lk.target = some w) (st : LockState) (from_ : Option Port) :
    lk.flags.Perm ((w.port, w.blocking) :: ({ lk with state := st, vacatingFrom := from_, target := none } : LockRec).flags) := by
  simp only [LockRec.flags, hw, Option.toList_some, Option.toList_none, List.append_nil, List.map_append, List.map_cons, List.map_nil]
  exact List.perm_append_singleton _ _

theorem State.lock_endStretch (s : State) (w : Waiter) (x : Ending) (k : LockId) : (s.endStretch w x).lock k = s.lock k := rfl

theorem State.lock_postGuarded (s : State) (w : Waiter) (n : Notice) (c : Option Port) (k : LockId) :
    (s.postGuarded w n c).lock k = s.lock k := by
  rw [State.postGuarded_frame]
  rfl

/-! ### Timers at a lock -/

theorem execHoldLimitExpiry_change (l : LockId) (p : Port) (s : State) :
    ∃ t, execHoldLimitExpiry l p s = .next t ∧ Change G s t := by
  unfold execHoldLimitExpiry
  split
  · next h hh =>
    split
    · obtain ⟨hmem, hport⟩ := LockRec.holderOf_eq_some hh
      obtain ⟨hop, hm⟩ := LockOp.released (A := (s.lock l).Sound l) (s := s.postFromLocks p (.revoked l h.gen .holdLimit) none) (l := l)
        (ports := [p]) id ⟨h, hmem, by simp [hport]⟩ none
      exact ⟨_, rfl, LockOp.change ((LockOp.postFromLocks s l p (by rfl) none).then hop) hm⟩
    · exact ⟨s, rfl, (Local.refl G s).change⟩
  · exact ⟨s, rfl, (Local.refl G s).change⟩

theorem execDeadlineExpiry_change (l : LockId) (p : Port) (s : State) :
    ∃ t, execDeadlineExpiry l p s = .next t ∧ Change G s t := by
  unfold execDeadlineExpiry
  split
  · next w hw =>
    obtain ⟨hmem, rfl⟩ := LockRec.waiterOf_eq_some hw
    split
    · refine ⟨_, rfl, ?_⟩
      have hremove := LockOp.withoutWaiter (A := (s.lock l).Sound l) hw
      have hm : (s.lock l).Moves l ((s.lock l).withoutWaiter w.port).passed :=
        .passed (fun h => (h.withoutWaiter_sound w.port).settling) rfl (.refl _)
      split
      · next hb =>
        have htold := hremove.endStretch w .expired fun _ ho => ⟨LockRec.blocks_of_waiter hmem hb, by
          rw [State.lock_setLock, if_pos rfl]
          exact ho.blocks_eq_false (ho.flags_withoutWaiter hmem)⟩
        refine LockOp.change ((htold.then (.grantPass _ l none)).settled fun _ q ⟨⟨hq, _⟩, hne⟩ => hne hq) ?_
        rw [State.lock_grantPass_self, State.lock_endStretch, State.lock_setLock, if_pos rfl]
        exact hm
      · next hb =>
        refine LockOp.change (((hremove.then (.postGuarded _ l w _ none)).then (.grantPass _ l none)).settled fun _ q ⟨_, hq⟩ => hb hq) ?_
        rw [State.lock_grantPass_self, State.lock_postGuarded, State.lock_setLock, if_pos rfl]
        exact hm
    · exact ⟨s, rfl, (Local.refl G s).change⟩
  · exact ⟨s, rfl, (Local.refl G s).change⟩

/-! ### The limit claim and the stretch limit -/

/-- The blocking flag of a port is cleared (R42). -/
theorem LockRec.blocks_clearBlocking (lk : LockRec) (q : Port) :
    ({ lk with queue := lk.queue.map (clearBlocking p), target := lk.target.map (clearBlocking p) } : LockRec).blocks q = true ↔
      lk.blocks q = true ∧ q ≠ p := by
  have hone (w : Waiter) : (clearBlocking p w).port = q ∧ (clearBlocking p w).blocking = true ↔ (w.port = q ∧ w.blocking = true) ∧ q ≠ p := by
    unfold clearBlocking
    split
    · next h =>
      refine ⟨fun hw => absurd hw.2 nofun, fun ⟨hw, hq⟩ => absurd (hw.1.symm.trans h) hq⟩
    · next h => exact ⟨fun hw => ⟨hw, fun hq => h (hw.1.trans hq)⟩, And.left⟩
  have hany (ws : List Waiter) : (∃ w ∈ ws.map (clearBlocking p), w.port = q ∧ w.blocking = true) ↔
      (∃ w ∈ ws, w.port = q ∧ w.blocking = true) ∧ q ≠ p := by
    refine ⟨fun ⟨w, hw, h⟩ => ?_, fun ⟨⟨w, hw, h⟩, hq⟩ => ⟨_, List.mem_map_of_mem hw, (hone w).mpr ⟨h, hq⟩⟩⟩
    obtain ⟨x, hx, rfl⟩ := List.mem_map.mp hw
    obtain ⟨h, hq⟩ := (hone x).mp h
    exact ⟨⟨x, hx, h⟩, hq⟩
  have hflags (lk : LockRec) : lk.blocks q = true ↔ ∃ w ∈ lk.queue ++ lk.target.toList, w.port = q ∧ w.blocking = true := by
    rw [LockRec.blocks_iff, LockRec.flags, List.mem_map]
    simp
  rw [hflags, hflags, ← hany, List.map_append, Option.toList_map]

theorem LockRec.blocks_of_blockingEntry {lk : LockRec} {w : Waiter} (h : lk.blockingEntry p = some w) :
    lk.blocks p = true ∧ w.port = p := by
  refine ⟨?_, ?_⟩
  · by_contra hb
    rw [LockRec.blockingEntry_eq_none.mpr (by simpa using hb)] at h
    cases h
  · unfold LockRec.blockingEntry at h
    cases hf : lk.queue.find? fun w => decide (w.port = p) && w.blocking with
    | some x =>
      rw [hf] at h
      obtain rfl := Option.some.inj h
      have := List.find?_some hf
      simp_all
    | none =>
      rw [hf] at h
      have := (Option.filter_eq_some_iff.mp h).2
      simp_all

theorem execLimitClaim_change (hG : G.leases → s.EnginesSound ∧ s.StretchesSound) (p : Port) :
    ∃ t, execLimitClaim p s = .next t ∧ Change G s t := by
  unfold execLimitClaim
  split
  · exact ⟨s, rfl, (Local.refl G s).change⟩
  · next l hl =>
    dsimp only
    split
    · next hnone =>
      refine ⟨_, rfl, (Local.claimTaken fun hg hs => ?_).change⟩
      obtain ⟨he, hst⟩ := hG hg
      obtain ⟨hwaits, hends⟩ := hst p
      obtain hx | ⟨k, hk⟩ := hends hs
      · exact hx
      · obtain ⟨-, -, -, -, -, -, -, -, hclaim, -⟩ := he p
        have hsame := hclaim (by simp [hl])
        rw [(hwaits k hk).1, hl] at hsame
        obtain rfl := Option.some.inj hsame
        rw [LockRec.blockingEntry_eq_none.mp hnone] at hk
        cases hk
    · next w hw =>
      refine ⟨_, rfl, ?_⟩
      obtain ⟨hb, rfl⟩ := LockRec.blocks_of_blockingEntry hw
      set lk : LockRec := { s.lock l with
        queue := (s.lock l).queue.map (clearBlocking w.port), target := (s.lock l).target.map (clearBlocking w.port) } with hlk
      have hblocks (q : Port) : lk.blocks q = true ↔ (s.lock l).blocks q = true ∧ q ≠ w.port := LockRec.blocks_clearBlocking _ q
      have hcleared : lk.blocks w.port = false := by
        rw [← Bool.not_eq_true, hblocks]
        simp
      have hports (ws : List Waiter) : (ws.map (clearBlocking w.port)).map Waiter.port = ws.map Waiter.port := by
        simp [Function.comp_def, clearBlocking_port]
      have hset : LockOp ((s.lock l).Sound l) l (fun q => q = w.port) s (s.setLock l lk) := by
        refine LockOp.setLock rfl (fun _ ho => ⟨?_, by simpa [hlk] using ho.2⟩) fun _ _ q => ?_
        · have hsame : lk.flags.map Prod.fst = (s.lock l).flags.map Prod.fst := by
            rw [LockRec.flags_ports, LockRec.flags_ports, hports, Option.map_map]
            congr 3
            exact funext fun w => clearBlocking_port _ w
          exact hsame ▸ ho.1
        · by_cases hq : q = w.port
          · subst hq
            exact .inr ⟨⟨hb, hcleared⟩, rfl⟩
          · refine .inl (Bool.eq_iff_iff.mpr ?_)
            rw [hblocks]
            simp [hq]
      have hop := (hset.endStretch w .pending fun _ _ => ⟨hb, by rwa [State.lock_setLock, if_pos rfl]⟩).settled fun _ q ⟨hq, hne⟩ => hne hq
      have hm : (s.lock l).Moves l (((s.setLock l lk).endStretch w .pending).lock l) := by
        rw [State.lock_endStretch, State.lock_setLock, if_pos rfl]
        exact LockRec.Moves.clearBlocking l (s.lock l) w.port
      have hengine : ((s.setLock l lk).endStretch w .pending).engine w.port =
          (s.engine w.port).hand (if s.sessionIs w.port w.epoch then .pending else .aborted) := by
        rw [State.endStretch, State.engine_handEnding, if_pos rfl]
        rfl
      have hclaim := (hop.change (G := G) hm).then (Local.claimTaken (p := w.port) fun _ _ => by
        rw [hengine]
        cases hx : (s.engine w.port).handed <;> simp [Engine.hand, hx])
      have hcommute : ((s.setEngine w.port { s.engine w.port with limitClaim := none }).setLock l lk).endStretch w .pending =
          ((s.setLock l lk).endStretch w .pending).setEngine w.port
            { ((s.setLock l lk).endStretch w .pending).engine w.port with limitClaim := none } := by
        rw [hengine, State.endStretch, State.endStretch, State.handEnding, State.handEnding, State.setEngine_setEngine]
        have hswap (e : Engine) : (s.setEngine w.port e).setLock l lk = (s.setLock l lk).setEngine w.port e := rfl
        rw [hswap, State.setEngine_setEngine, State.engine_setEngine, if_pos rfl]
        rfl
      rw [hcommute]
      exact hclaim

theorem execStretchLimitExpiry_change (hG : G.leases → s.EnginesSound) (p : Port) :
    ∃ t, execStretchLimitExpiry p s = .next t ∧ Change G s t := by
  unfold execStretchLimitExpiry
  dsimp only
  split
  · next h => exact ⟨_, rfl, (Local.stretchLimit h.1 fun hg => hG hg p).change⟩
  · exact ⟨s, rfl, (Local.refl G s).change⟩

theorem execStretchEnding_change (p : Port) (s : State) : ∃ t, execStretchEnding p s = .next t ∧ Change G s t := by
  unfold execStretchEnding
  split
  · next x hs hx => exact ⟨_, rfl, (Local.storeEnding hs hx).change⟩
  · exact ⟨s, rfl, (Local.refl G s).change⟩

end

end Sys2Proof.Machine
end

section
/-! The two lock steps of a teardown, as changes that keep the invariants (R51, R97). -/

namespace Sys2Proof.Machine

section
variable {A : Prop} {G : Scope} {s t : State} {p : Port} {l : LockId} {lk : LockRec}

/-! ### At one lock -/

theorem LockOp.blocks_eq_false {owed : Port → Prop} (h : LockOp A l owed s t) (ha : A) (hw : (s.lock l).WaitsOnce) {q : Port}
    (hb : (s.lock l).blocks q = false) : (t.lock l).blocks q = false := by
  obtain ⟨-, he⟩ | ⟨⟨-, he⟩, -⟩ := h.entries ha hw q
  · rw [he, hb]
  · exact he

/-- The holding of a port is withdrawn (R97). -/
theorem LockOp.withdrawHolding (hA : A → (s.lock l).Sound l) (p : Port) :
    LockOp A l (fun _ => False) s (s.withdrawHolding p l) ∧ (s.lock l).Moves l ((s.withdrawHolding p l).lock l) := by
  by_cases hp : p ∈ (s.lock l).holders.map Holder.port
  · obtain ⟨x, hx, hport⟩ := List.mem_map.mp hp
    rw [State.withdrawHolding_of_holder hp]
    exact LockOp.released hA ⟨x, hx, by simp [hport]⟩ _
  · rw [State.withdrawHolding_of_not_holder hp]
    exact ⟨.refl l s, .refl l _⟩

/-- The entry of a port leaves the queue and the pass runs; a blocking frame is aborted (R51). -/
theorem LockOp.withdrawWaiter (s : State) (p : Port) (l : LockId) :
    LockOp A l (fun _ => False) s (s.withdrawWaiter p l) ∧ (s.lock l).Moves l ((s.withdrawWaiter p l).lock l) := by
  unfold State.withdrawWaiter
  split
  · next w hw =>
    obtain ⟨hmem, hport⟩ := LockRec.waiterOf_eq_some hw
    have hop := (LockOp.withoutWaiter (A := A) hw).then (.grantPass _ l (some p))
    have hm : (s.lock l).Moves l (((s.setLock l ((s.lock l).withoutWaiter p)).grantPass l (some p)).lock l) := by
      rw [State.lock_grantPass_self, State.lock_setLock, if_pos rfl]
      exact .passed (fun h => (h.withoutWaiter_sound p).settling) rfl (.refl _)
    dsimp only
    split
    · next hb =>
      refine ⟨(hop.hand p .aborted fun ha ho => ⟨hport ▸ LockRec.blocks_of_waiter hmem hb, ?_⟩).mono fun q ⟨⟨hq, _⟩, hne⟩ => hne hq, hm⟩
      have hset := LockOp.withoutWaiter (A := A) hw
      refine (LockOp.grantPass _ l (some p)).blocks_eq_false ha (hset.once ha ho) ?_
      rw [State.lock_setLock, if_pos rfl, ← hport]
      exact ho.blocks_eq_false (ho.flags_withoutWaiter hmem)
    · next hb => exact ⟨hop.mono fun q ⟨_, hq⟩ => hb hq, hm⟩
  · exact ⟨.refl l s, .refl l _⟩

/-- A handover toward a port is aborted, and so is its blocking frame (R49, R51). -/
theorem LockOp.withdrawTarget (s : State) (p : Port) (l : LockId) :
    LockOp A l (fun _ => False) s (s.withdrawTarget p l) ∧ (s.lock l).Moves l ((s.withdrawTarget p l).lock l) := by
  unfold State.withdrawTarget
  split
  · next w hw =>
    split
    · next hport =>
      have hop := LockOp.vacate (A := A) (lk := s.lock l) (some p) (by rfl) (by rfl)
      have hm : (s.lock l).Moves l ((s.abortHandover l p).lock l) := by
        rw [State.abortHandover, State.lock_vacate]
        exact .aborted hw p
      dsimp only
      split
      · next hb =>
        refine ⟨(hop.hand p .aborted fun _ ho => ⟨hport ▸ LockRec.blocks_of_target hw hb, ?_⟩).mono ?_, hm⟩
        · rw [State.lock_vacate, ← hport]
          exact ho.blocks_eq_false (LockRec.flags_withoutTarget hw _ _)
        · rintro q ⟨⟨x, hx, hq, -⟩, hne⟩
          obtain rfl := Option.some.inj (hw.symm.trans hx)
          exact hne (hq.symm.trans hport)
      · next hb =>
        refine ⟨hop.mono ?_, hm⟩
        rintro q ⟨x, hx, -, hq⟩
        obtain rfl := Option.some.inj (hw.symm.trans hx)
        exact hb hq
    · exact ⟨.refl l s, .refl l _⟩
  · exact ⟨.refl l s, .refl l _⟩

/-! ### The grants of the second step -/

/-- Directly after a batch nothing is left that a second pass could serve (R35). -/
theorem LockRec.pass_after_batch {b : LockRec} {f : Waiter → Waiter} (hstate : b.state = .shared)
    (htail : ∀ w ∈ lk.queue.drop (sharedBatch lk.queue).length, w.req ≠ .upgrade) (hf : ∀ w, w.req ≠ .upgrade → (f w).req = w.req)
    (hqueue : b.queue = (lk.queue.drop (sharedBatch lk.queue).length).map f) : b.pass = .nothing := by
  cases hd : lk.queue.drop (sharedBatch lk.queue).length with
  | nil => exact LockRec.pass_of_no_waiter (by rw [hqueue, hd]; rfl)
  | cons w rest =>
    have hup : w.req ≠ .upgrade := htail w (by simp [hd])
    have hshared : w.req ≠ .shared := by
      have hsplit : sharedBatch lk.queue ++ w :: rest = lk.queue := hd ▸ sharedBatch_append_drop lk.queue
      have hall : ∀ x ∈ sharedBatch lk.queue, decide (x.req = .shared) = true := fun x hx =>
        List.mem_takeWhile_imp (p := fun w : Waiter => decide (w.req = .shared)) hx
      intro hw
      have hlen := congrArg (fun q => (sharedBatch q).length) hsplit
      have heq : sharedBatch (sharedBatch lk.queue ++ w :: rest) =
          sharedBatch lk.queue ++ w :: rest.takeWhile fun w => decide (w.req = .shared) := by
        rw [sharedBatch, List.takeWhile_append_of_pos hall, List.takeWhile_cons_of_pos (by simp [hw])]
      simp [heq] at hlen
    have hx : w.req = .exclusive := by cases hr : w.req <;> simp_all
    exact LockRec.pass_of_shared_exclusive (w := f w) (rest := rest.map f) (by rw [hqueue, hd]; rfl) hstate (by rw [hf w hup, hx])

/-- The withdrawal of an entry and then of a holding grants at most once (R51): what a holder's entry has stood before is served by the
one pass or by the other. -/
theorem LockRec.Sound.withdrawn_grants (h : lk.Sound l) (hq : p ∈ lk.queue.map Waiter.port)
    (hp : p ∈ (lk.withoutWaiter p).passed.holders.map Holder.port) :
    lk.GrantsAtMostOnce ((lk.withoutWaiter p).passed.released [p]) := by
  have hports (w : Waiter) (hw : w ∈ (lk.withoutWaiter p).queue) : w.port ≠ p := by
    simpa using List.of_mem_filter (show w ∈ lk.queue.filter _ from hw)
  have hheld : p ∈ lk.holders.map Holder.port := by
    by_contra hno
    refine LockRec.not_mem_passed_holders (lk := lk.withoutWaiter p) hno (fun hmem => ?_) hp
    obtain ⟨w, hw, hwp⟩ := List.mem_map.mp hmem
    exact hports w hw hwp
  have hfree : (lk.withoutWaiter p).state ≠ .free := fun hs => by simp [h.queue_of_free hs] at hq
  have hsound := (h.withoutWaiter_sound p).settling
  obtain hn | ⟨w, rest, -, hs, -⟩ | ⟨w, rest, hw, hshared, hs, hb⟩ | ⟨w, rest, x, hw, -, -, hx, hxp, -⟩ | ⟨w, rest, g, -, hs, -⟩ :=
    (lk.withoutWaiter p).pass_cases
  · have hsame : (lk.withoutWaiter p).passed = lk.withoutWaiter p := by rw [LockRec.passed, hn]; rfl
    obtain ⟨x, hx, hxp⟩ := List.mem_map.mp hheld
    rw [hsame]
    exact (LockRec.HoldersFrom.refl lk).then_grants (b := lk.withoutWaiter p) rfl
      ((LockRec.Moves.released (lk := lk.withoutWaiter p) ⟨x, hx, by simp [hxp]⟩).grants (h.withoutWaiter_sound p))
  · exact absurd hs hfree
  · set b := (lk.withoutWaiter p).passed with hbdef
    have hbeq : b = { (lk.withoutWaiter p).grant .shared ((sharedBatch (lk.withoutWaiter p).queue).map (·.port)) with
        queue := (lk.withoutWaiter p).queue.drop (sharedBatch (lk.withoutWaiter p).queue).length } := by
      rw [hbdef, LockRec.passed, hb]
      rfl
    have hgrants : lk.GrantsAtMostOnce b := (LockRec.HoldersFrom.refl lk).then_grants (b := lk.withoutWaiter p) rfl (LockRec.passed_grants _)
    have hnew : (lk.withoutWaiter p).newHolder .shared w.port ∈ (b.withoutHolders [p]).holders := by
      refine List.mem_filter.mpr ⟨?_, ?_⟩
      · rw [hbeq]
        refine List.mem_append_right _ (List.mem_map_of_mem (List.mem_map_of_mem ?_))
        simp [sharedBatch, hw, hshared]
      · simpa [LockRec.newHolder] using hports w (by simp [hw])
    have hnothing : (b.withoutHolders [p]).pass = .nothing := by
      refine LockRec.pass_after_batch (lk := lk.withoutWaiter p) (f := demoteUpgrade [p]) (by rw [hbeq]; rfl) (fun x hx => ?_)
        (fun x hx => ?_) (by rw [hbeq]; rfl)
      · refine hsound.tail x ?_
        rw [← List.drop_one]
        refine (List.drop_sublist_drop_left _ ?_).mem hx
        simp [sharedBatch, hw, hshared]
      · obtain ⟨-, hu, -⟩ | ⟨he, -⟩ := demoteUpgrade_req_cases [p] x
        · exact absurd hu hx
        · exact he
    rw [LockRec.released, if_neg (List.ne_nil_of_mem hnew), LockRec.passed, hnothing]
    refine LockRec.HoldersFrom.grants_then hgrants (List.filter_sublist (l := b.holders)) rfl (.inr ⟨_, hnew, ?_⟩)
    rw [hbeq]
    rfl
  · obtain ⟨y, hy, hyp⟩ := List.mem_map.mp hheld
    have hyx : y = x := by
      rw [show lk.holders = [x] from hx] at hy
      simpa using hy
    exact absurd (hxp.symm.trans (hyx ▸ hyp)) (hports w (by simp [hw]))
  · exact absurd hs hfree

theorem State.lock_withdrawWaiter (hq : p ∈ (s.lock l).queue.map Waiter.port) :
    (s.withdrawWaiter p l).lock l = ((s.lock l).withoutWaiter p).passed := by
  have hlock : ((s.setLock l ((s.lock l).withoutWaiter p)).grantPass l (some p)).lock l = ((s.lock l).withoutWaiter p).passed := by
    rw [State.lock_grantPass_self, State.lock_setLock, if_pos rfl]
  unfold State.withdrawWaiter
  split
  · dsimp only
    split
    · rw [State.lock_handEnding, hlock]
    · exact hlock
  · next hno => exact absurd hq (LockRec.waiterOf_eq_none.mp hno)

/-- The second step of a teardown at one lock (R51). -/
theorem LockOp.withdrawWaits (s : State) (p : Port) (l : LockId) :
    LockOp ((s.lock l).Sound l) l (fun _ => False) s (((s.withdrawWaiter p l).withdrawTarget p l).withdrawHolding p l) ∧
      (s.lock l).Moves l ((((s.withdrawWaiter p l).withdrawTarget p l).withdrawHolding p l).lock l) := by
  obtain ⟨hop1, hm1⟩ := LockOp.withdrawWaiter (A := (s.lock l).Sound l) s p l
  obtain ⟨hop2, hm2⟩ := LockOp.withdrawTarget (A := (s.lock l).Sound l) (s.withdrawWaiter p l) p l
  obtain ⟨hop3, hm3⟩ := LockOp.withdrawHolding (A := (s.lock l).Sound l) (fun h => hm2.sound (hm1.sound h)) p
  refine ⟨(hop1.then hop2).then hop3, fun h => hm3.sound (hm2.sound (hm1.sound h)), fun h => ?_⟩
  obtain ⟨-, -, hplaces⟩ := h.places
  by_cases hq : p ∈ (s.lock l).queue.map Waiter.port
  · have hlock := State.lock_withdrawWaiter hq
    have hfree : (s.lock l).state ≠ .free := fun hs => by simp [h.queue_of_free hs] at hq
    have htarget : p ∉ (((s.withdrawWaiter p l).lock l).target.map Waiter.port).toList := by
      rw [hlock, LockRec.passed_target (by exact hfree)]
      intro hmem
      obtain ⟨w, hw, hwp⟩ := Option.map_eq_some_iff.mp (Option.mem_toList.mp hmem)
      exact (hplaces w hw).2.2 (hwp ▸ hq)
    rw [State.withdrawTarget_of_not_target htarget]
    by_cases hp : p ∈ ((s.withdrawWaiter p l).lock l).holders.map Holder.port
    · rw [State.withdrawHolding_of_holder hp, State.lock_releasePath, hlock]
      exact h.withdrawn_grants hq (hlock ▸ hp)
    · rw [State.withdrawHolding_of_not_holder hp]
      exact hm1.grants h
  · rw [State.withdrawWaiter_of_not_waiter hq] at hm2 ⊢
    by_cases ht : p ∈ ((s.lock l).target.map Waiter.port).toList
    · obtain ⟨w, hw, -⟩ := Option.map_eq_some_iff.mp (Option.mem_toList.mp ht)
      have hs := h.state_of_target hw
      have hnil := h.holders_eq_nil (by simp [hs]) (by simp [hs])
      have hkept := hm2.grants h
      have hp : p ∉ ((s.withdrawTarget p l).lock l).holders.map Holder.port := by
        have hwithdraw : ((s.withdrawTarget p l).lock l).holders = (s.lock l).holders := by
          unfold State.withdrawTarget
          rw [hw]
          dsimp only
          split
          · split
            · rw [State.lock_handEnding, State.abortHandover, State.lock_vacate]
            · rw [State.abortHandover, State.lock_vacate]
          · rfl
        simp [hwithdraw, hnil]
      rw [State.withdrawHolding_of_not_holder hp]
      exact hkept
    · rw [State.withdrawTarget_of_not_target ht]
      exact (LockOp.withdrawHolding (A := (s.lock l).Sound l) id p).2.grants h

/-! ### The steps -/

theorem State.teardown_of_step {x : Teardown} (h : s.teardownStep p = some x) : (s.session p).teardown ≠ none := by
  obtain ⟨hx, -⟩ := (State.teardownStep_eq_some s p x).mp h
  intro hno
  simp [State.handedOn, hno] at hx

/-- A step is marked as taken, once its effects have left the session as it was (R97). -/
theorem Local.marked {x : Teardown} (h : s.teardownStep p = some x) (hs : t.session p = s.session p) (y : Teardown) :
    Local G t (t.setSession p { t.session p with teardown := some y }) :=
  .of_setSession (Session.marked_moves (hs ▸ State.teardown_of_step h) y)

theorem execTeardownHoldings_change (p : Port) (l : LockId) (s : State) :
    ∃ t, execTeardownHoldings p l s = .next t ∧ Change G s t := by
  unfold execTeardownHoldings
  split
  · next x _ hx =>
    obtain ⟨hop, hm⟩ := LockOp.withdrawHolding (A := (s.lock l).Sound l) id p
    exact ⟨_, rfl, (hop.change hm).then (.marked hx (hop.session p) _)⟩
  · exact ⟨s, rfl, (Local.refl G s).change⟩

theorem execTeardownWaits_change (p : Port) (l : LockId) (s : State) :
    ∃ t, execTeardownWaits p l s = .next t ∧ Change G s t := by
  unfold execTeardownWaits
  split
  · next x _ hx =>
    obtain ⟨hop, hm⟩ := LockOp.withdrawWaits s p l
    exact ⟨_, rfl, (hop.change hm).then (.marked hx (hop.session p) _)⟩
  · exact ⟨s, rfl, (Local.refl G s).change⟩

end

end Sys2Proof.Machine
end

section
/-! The claims at the session, message and notice blocks and the bus events at an engine, as changes that keep the invariants. -/

namespace Sys2Proof.Machine

section
variable {G : Scope} {s t : State} {p : Port}

/-! ### The lease and the last three steps of a teardown (R91, R98 to R100) -/

theorem execLeaseExpiry_change (p : Port) (s : State) : ∃ t, execLeaseExpiry p s = .next t ∧ Change G s t := by
  unfold execLeaseExpiry
  split
  · next h => exact ⟨_, rfl, (Local.of_setSession (Session.beginTeardown_moves h.1 (reason := .lapsed) nofun nofun none)).change⟩
  · exact ⟨s, rfl, (Local.refl G s).change⟩

theorem execTeardownFlush_change (p : Port) (s : State) : ∃ t, execTeardownFlush p s = .next t ∧ Change G s t := by
  unfold execTeardownFlush
  split
  · next x _ hx => exact ⟨_, rfl, ((Local.flushQueue s p _).trans (.marked hx (State.session_flushQueue _ p) _)).change⟩
  · exact ⟨s, rfl, (Local.refl G s).change⟩

theorem execTeardownPeerEnded_change (p : Port) (s : State) : ∃ t, execTeardownPeerEnded p s = .next t ∧ Change G s t := by
  unfold execTeardownPeerEnded
  split
  · next x _ hx => exact ⟨_, rfl, ((Local.tellPeers s _ _ _).trans (.marked hx (State.session_tellPeers _ _ _ p) _)).change⟩
  · exact ⟨s, rfl, (Local.refl G s).change⟩

/-- The OK of a teardown is stored at an engine that waits for it (R93, R95). -/
theorem Local.handOk (s : State) (p : Port) (awaiter : Option Port) : Local G s (s.handOk p awaiter) := by
  unfold State.handOk
  split
  · exact .refl G s
  · next a =>
    by_cases h : (s.engine a).state = .executing ∧ (s.engine a).wait = (if a = p then ExecWait.ownTeardown else .teardownOf p)
    · rw [if_pos h]
      refine .respond h.1 (.inr ?_) _ _
      rw [h.2]
      split <;> exact nofun
    · rw [if_neg h]
      exact .refl G s

theorem execTeardownEnd_change (p : Port) (s : State) : ∃ t, execTeardownEnd p s = .next t ∧ Change G s t := by
  unfold execTeardownEnd
  split
  · have hempty : Local G s (s.setNoticeQueue p { records := [], lost := false }) := .of_setNoticeQueue fun _ => Nat.zero_le _
    dsimp only
    split
    · refine ⟨_, rfl, ((hempty.trans (.of_ended (fun q => decide (q = p)) rfl fun q => ?_)).trans (.handOk _ p _)).change⟩
      by_cases hq : q = p
      · subst hq
        refine .inr ⟨by simp, ?_⟩
        rw [State.session_setSession, if_pos rfl]
        exact ⟨rfl, fun _ => Session.finish_sound _ _ none⟩
      · refine .inl ⟨?_, by simpa using hq⟩
        rw [State.session_setSession, if_neg (Ne.symm hq)]
        rfl
    · exact ⟨_, rfl, (hempty.trans (.of_setSession (Session.endTeardown_moves _))).change⟩
  · exact ⟨s, rfl, (Local.refl G s).change⟩

/-! ### Port limits and posts (R132, R154 to R157) -/

theorem execNewPortLimitsTaken_change (p : Port) (block : LimitBlock) (s : State) :
    ∃ t, execNewPortLimitsTaken p block s = .next t ∧ Change G s t := by
  unfold execNewPortLimitsTaken
  split
  · next h hs hw =>
    split
    · exact ⟨s, rfl, (Local.refl G s).change⟩
    · have hrange (u : State) (hu : (u.engine p).wait = .portLimits h) (hp : u.PoolSound) : limitsInRange h.quota h.sendCap h.stretch := by
        obtain ⟨-, -, hr⟩ := hp.engine_inRange p
        rw [hu] at hr
        exact of_decide_eq_true hr
      have hkept : ((s.takeLimits h block).engine p).state = .executing ∧ ((s.takeLimits h block).engine p).wait = .portLimits h := by
        cases block with
        | session => exact ⟨hs, hw⟩
        | message => exact ⟨hs, hw⟩
        | engine =>
          rw [State.takeLimits, State.engine_setEngine]
          split
          · next hq => subst hq; exact ⟨hs, hw⟩
          · exact ⟨hs, hw⟩
      have hmark : (ExecWait.portLimits (h.mark block)).inRange = (ExecWait.portLimits h).inRange := by cases block <;> rfl
      have htaken : Local G s ((s.takeLimits h block).waitFor p (.portLimits (h.mark block))) := by
        refine (Local.takeLimits (hrange s hw) block).trans (.waitFor hkept.1 (by simp [hkept.2]) (fun hp => ?_) fun _ _ => rfl)
        rw [hmark]
        exact decide_eq_true (hrange _ hkept.2 hp)
      have hengine : ((s.takeLimits h block).waitFor p (.portLimits (h.mark block))).engine p =
          { (s.takeLimits h block).engine p with wait := .portLimits (h.mark block) } := by
        rw [State.waitFor, State.engine_setEngine, if_pos rfl]
      dsimp only
      split
      · refine ⟨_, rfl, (htaken.trans (.respond ?_ (.inr ?_) _ _)).change⟩
        · rw [hengine]
          exact hkept.1
        · rw [hengine]
          exact nofun
      · exact ⟨_, rfl, htaken.change⟩
  · exact ⟨s, rfl, (Local.refl G s).change⟩

theorem execNoticePost_change (source : PostSource) (s : State) : ∃ t, execNoticePost source s = .next t ∧ Change G s t := by
  have hnone : ∃ t, Host.Outcome.next s = (.next t : Host.Outcome State Fault Refusal) ∧ Change G s t := ⟨s, rfl, (Local.refl G s).change⟩
  unfold execNoticePost
  cases source with
  | lockTable =>
    dsimp only
    split
    · next x rest hx =>
      refine ⟨_, rfl, (Local.trans (.of_posts rfl fun y hy => .inl ?_) (.takePost _ x)).change⟩
      rw [hx]
      exact List.mem_cons_of_mem x hy
    · exact hnone
  | sessionBlock =>
    dsimp only
    split
    · next x rest hx =>
      have hposts : Local G s { s with sessionPosts := rest } := .of_posts rfl fun y hy => .inl hy
      exact ⟨_, rfl, (hposts.trans (.takePost _ x)).change⟩
    · exact hnone
  | messageBlock =>
    dsimp only
    split
    · next x rest hx =>
      refine ⟨_, rfl, (Local.trans (.of_posts rfl fun y hy => .inl ?_) (.takePost _ x)).change⟩
      rw [hx]
      obtain hy | hy := List.mem_append.mp hy
      · exact List.mem_append_left _ hy
      · exact List.mem_append_right _ (List.mem_cons_of_mem x hy)
    · exact hnone

/-! ### Bus events (R180 to R191) -/

theorem execBusCondition_change (p : Port) (event : BusEvent) (s : State) : ∃ t, execBusCondition p event s = .next t ∧ Change G s t := by
  cases event with
  | start => exact ⟨_, rfl, (Local.of_linkMoves (Engine.takeStart_moves _)).change⟩
  | stop => exact ⟨_, rfl, (Local.of_linkMoves (Engine.takeStop_moves _)).change⟩

theorem execAddressByte_change (p : Port) (b : Byte) (s : State) : ∃ t, execAddressByte p b s = .next t ∧ Change G s t :=
  ⟨_, rfl, (Local.of_linkMoves (Engine.takeAddress_moves _ b)).change⟩

theorem execLinkRefusal_change (p : Port) (bytes : Clocked (List Byte)) (s : State) :
    ∃ t, execLinkRefusal p bytes s = .next t ∧ Change G s t := by
  cases bytes with
  | opened written => exact ⟨_, rfl, (Local.of_linkMoves ((Engine.openWrite_moves _).trans (Engine.takeBytes_moves _ written))).change⟩
  | resumed written => exact ⟨_, rfl, (Local.of_linkMoves (Engine.takeBytes_moves _ written)).change⟩

theorem execReadTransaction_change (p : Port) (count : Clocked Nat) (nack : Bool) (s : State) :
    ∃ t, execReadTransaction p count nack s = .next t ∧ Change G s t := by
  unfold execReadTransaction
  split
  · exact ⟨s, rfl, (Local.refl G s).change⟩
  · next hscl =>
    have hfree : (s.engine p).holdsScl = false := by simpa using hscl
    refine ⟨_, rfl, (Local.of_linkMoves ?_).change⟩
    have hend {e : Engine} (h : (s.engine p).LinkMoves e) : (s.engine p).LinkMoves (if nack then e.endRead else e) := by
      split
      · exact h.trans (Engine.endRead_moves e)
      · exact h
    refine hend ?_
    cases count with
    | opened n =>
      refine (Engine.openRead_moves _).trans (Engine.sendBytes_moves ?_ n)
      exact (Engine.openRead_moves _).free hfree
    | resumed n => exact Engine.sendBytes_moves hfree n

theorem execBusTimeout_change (p : Port) (s : State) : ∃ t, execBusTimeout p s = .next t ∧ Change G s t := by
  unfold execBusTimeout
  split
  · exact ⟨_, rfl, (Local.of_linkMoves (Engine.takeTimeout_moves _)).change⟩
  · exact ⟨s, rfl, (Local.refl G s).change⟩

/-! ### The second stage of RESTART at three blocks (R105, R129, R146) -/

theorem Restart.mark_sessionTaken {r : Restart} {block : RestartBlock} (h : (r.mark block).sessionTaken = true) :
    block = .session ∨ r.sessionTaken = true := by
  cases block
  · exact .inl rfl
  all_goals exact .inr h

/-- A block has taken the second stage. -/
theorem Local.marked_restart {r : Restart} (block : RestartBlock) (hr : s.restart = some r)
    (hclosed : block = .session → ∀ q, (s.session q).state = .closed) :
    Local G s { s with restart := some (r.mark block) } :=
  .of_restart fun _ hs x hx => by
    obtain rfl := Option.some.inj hx
    obtain ⟨h1, h2, h3⟩ := hs r hr
    have hrequester : (r.mark block).requester = r.requester := by cases block <;> rfl
    rw [hrequester]
    exact ⟨h1, h2, fun ht => (Restart.mark_sessionTaken ht).elim hclosed h3⟩

theorem Local.restartSessions (s : State) : Local G s s.restartSessions :=
  .of_ended (fun _ => true) rfl fun q => .inr ⟨rfl, by
    rw [State.session_restartSessions]
    exact ⟨rfl, fun _ => Session.finish_sound _ _ _⟩⟩

theorem Local.restartMessages (s : State) : Local G s s.restartMessages := by
  refine .of_messages rfl (fun _ hp => ⟨fun c => ?_, fun q => ?_⟩) fun _ => .inl
  · refine ⟨fun _ => ?_, fun x hx => ?_⟩
    · simp [State.namings]
    · simp at hx
  · obtain ⟨-, -, h3, h4, h5, h6⟩ := hp.2 q
    rw [State.QueuesFit, State.inbound_restartMessages]
    exact ⟨List.nodup_nil, Nat.zero_le _, h3, h4, h5, h6⟩

theorem Local.restartNotices (s : State) : Local G s s.restartNotices := by
  refine .of_records rfl (fun hs => hs) (fun hs => hs) (fun _ hp => hp.of_kept (fun _ => rfl) (fun _ => rfl) (fun q => hp.engine_inRange q)
    (fun q => ?_) fun q => hp.limit_inRange q) (fun _ hs => hs) fun _ _ _ ho => ⟨ho, Nat.le_refl _⟩
  rw [State.noticeQueue_restartNotices]
  exact Nat.zero_le _

end

end Sys2Proof.Machine
end

section
/-! The route block and the lock table's second stage of RESTART: what touches the lines of a group, and the reports at its lock. -/

namespace Sys2Proof.Machine

/-! ### What a command keeps -/

/-- What a command other than RESET keeps of the lock records, the lines of the groups and the grants, besides the other invariants.
Lines may move here, but the select value only while the enable line is deasserted (R62). -/
structure Kept (G : Scope) (s t : State) : Prop extends Keeps G s t where
  locks : s.BindingsAgree → s.LocksSound → t.LocksSound
  lines : s.GroupsSound → ∀ g, (t.group g).select ≠ (s.group g).select → (s.group g).enable = false ∧ (t.group g).enable = false
  grants : G.fresh → s.LocksSound → ∀ l, (s.lock l).GrantsAtMostOnce (t.lock l)

section
variable {A : Prop} {G H : Scope} {s t u : State} {g x : Group} {k : GroupId} {l : LockId} {p : Port}

theorem Change.kept (h : Change G s t) : Kept G s t :=
  { h with
    locks := fun _ => h.locks
    lines := fun hs g hne =>
      have he := (h.lines hs g).select hne
      ⟨he, (h.lines hs g).enable.trans he⟩ }

theorem Kept.mono (h : Kept G s t) (hw : H.Within G) : Kept H s t :=
  { h with toKeeps := h.toKeeps.mono hw, grants := fun hH => h.grants (hw.1 hH) }

/-- A change that leaves the lines and the bindings alone comes first. -/
theorem Local.thenKept (h : Local G s u) (hgroup : ∀ g, (s.group g).Keeps (u.group g)) (h' : Kept G u t) : Kept G s t where
  toKeeps := h.toKeeps.trans h.locks h'.toKeeps
  locks hb hl := h'.locks (fun g l => by rw [(hgroup g).lock, h.lock]; exact hb g l) (h.locks hl)
  lines hs g hne := by
    rw [← (hgroup g).select] at hne
    rw [← (hgroup g).enable]
    exact h'.lines (h.groups hs) g hne
  grants hG hl l := h.lock l ▸ h'.grants hG (h.locks hl) l

/-! ### Orders and timers at a group (R65 to R73, R79) -/

/-- A group stays sound and bound as it is, and its select value changes only while the enable line is deasserted (R58, R62). -/
structure Group.Arrives (g x : Group) : Prop where
  sound : g.Sound → x.Sound
  lock : x.lock = g.lock
  lines : g.Sound → x.select ≠ g.select → g.enable = false ∧ x.enable = false

theorem Kept.of_setGroup (h : (s.group k).Arrives x) : Kept G s (s.setGroup k x) := by
  have harrives (g : GroupId) : (s.group g).Arrives ((s.setGroup k x).group g) := by
    by_cases hg : k = g
    · subst hg
      simpa using h
    · simpa [hg] using (⟨id, rfl, fun _ hne => absurd rfl hne⟩ : (s.group g).Arrives (s.group g))
  exact {
    pending := rfl
    sessions := fun hs => hs
    posts := fun hs => hs
    pool := fun _ hs => hs
    restart := fun _ hs => hs
    stretches := fun _ he hs => ⟨he, hs⟩
    groups := fun hs g => (harrives g).sound (hs g)
    bindings := fun _ hb g l => by rw [(harrives g).lock]; exact hb g l
    leases := fun _ _ _ _ hs => hs
    locks := fun _ hs => hs
    lines := fun hs g => (harrives g).lines (hs g)
    grants := fun _ _ l => LockRec.grants_of_kept rfl (.refl _) }

/-- The select value stays. -/
theorem Group.Arrives.of_select (sound : g.Sound → x.Sound) (hlock : x.lock = g.lock) (hselect : x.select = g.select) : g.Arrives x :=
  ⟨sound, hlock, fun _ hne => absurd hselect hne⟩

theorem Group.Arrives.refl (g : Group) : g.Arrives g := .of_select id rfl rfl

/-- Lists of orders and reports do not matter to a group's soundness. -/
theorem Group.Sound.with_claims (h : g.Sound) (orders : List Order) (reports : List Report) :
    ({ g with orders := orders, reports := reports } : Group).Sound := h

/-- A group that is bound stays so in another state, with lines that fit it. -/
theorem Group.Sound.moved (h : g.Sound) {st : GroupState} {select : Port} {enable clearing : Bool} {timer : GroupTimer}
    {orders : List Order} {reports : List Report} (h1 : g.state ≠ .unbound) (h2 : st ≠ .unbound) (h3 : clearing = false)
    (hlines : ({ g with
      state := st, select := select, enable := enable, timer := timer, clearing := clearing, orders := orders, reports := reports } :
        Group).LinesFit) :
    ({ g with
      state := st, select := select, enable := enable, timer := timer, clearing := clearing, orders := orders, reports := reports } :
        Group).Sound := by
  obtain ⟨-, hlock, h0, hguard, -, hsense⟩ := h
  exact ⟨hlines, by simpa [h1, h2] using hlock, h0, by simpa [h1, h2] using hguard, by simp [h3], hsense⟩

/-- Outside FAULT a sound group is not clearing (R78). -/
theorem Group.Sound.clearing_eq_false (h : g.Sound) (hs : g.state ≠ .fault) : g.clearing = false := by
  obtain ⟨-, -, -, -, hclearing, -⟩ := h
  by_contra hc
  exact hs (hclearing (by simpa using hc))

theorem Group.takeBreak_arrives (g : Group) (rest : List Order) : g.Arrives ({ g with orders := rest } : Group).takeBreak := by
  unfold Group.takeBreak
  dsimp only
  split
  case h_1 hs | h_2 hs =>
    refine .of_select (fun h => ?_) rfl rfl
    exact h.moved (by simp [hs]) nofun (h.clearing_eq_false (by simp [hs])) (by simp [Group.LinesFit, GroupTimer.isGuard])
  all_goals exact .of_select (fun h => h.with_claims rest g.reports) rfl rfl

theorem Group.takeMake_arrives (g : Group) (rest : List Order) (q : Port) :
    g.Arrives (({ g with orders := rest } : Group).takeMake q) := by
  unfold Group.takeMake
  dsimp only
  split
  case h_1 hs =>
    have henable (h : g.Sound) : g.enable = false := by
      obtain ⟨⟨-, hbroken, -⟩, -⟩ := h
      exact (hbroken hs).1
    refine ⟨fun h => ?_, rfl, fun h _ => ⟨henable h, henable h⟩⟩
    exact h.moved (by simp [hs]) nofun (h.clearing_eq_false (by simp [hs])) (by simp [Group.LinesFit, GroupTimer.isSettle, henable h])
  all_goals exact .of_select (fun h => h.with_claims rest g.reports) rfl rfl

theorem Group.finishBreak_arrives (hs : g.state = .breaking ∨ g.state = .fault) : g.Arrives g.finishBreak := by
  refine .of_select (fun h => ?_) rfl rfl
  have henable : g.enable = false := by
    obtain ⟨⟨-, -, hbreaking, -, -, hfault⟩, -⟩ := h
    exact hs.elim (fun hs => (hbreaking hs).1) fun hs => (hfault hs).1
  exact h.moved (by obtain hs | hs := hs <;> simp [hs]) nofun rfl (by simp [Group.LinesFit, henable])

theorem Group.finishMake_arrives (hs : g.state = .making) : g.Arrives g.finishMake := by
  refine .of_select (fun h => ?_) rfl rfl
  exact h.moved (by simp [hs]) nofun (h.clearing_eq_false (by simp [hs])) (by simp [Group.LinesFit])

theorem Group.enterFault_arrives (hs : g.state = .making ∨ g.state = .made) : g.Arrives g.enterFault := by
  refine .of_select (fun h => ?_) rfl rfl
  have hclearing := h.clearing_eq_false (by obtain hs | hs := hs <;> simp [hs])
  exact h.moved (by obtain hs | hs := hs <;> simp [hs]) nofun hclearing (by simp [Group.LinesFit, hclearing])

theorem Group.settle_arrives (hs : g.state = .making) : g.Arrives g.settle := by
  unfold Group.settle
  split
  · exact Group.finishMake_arrives hs
  · refine .of_select (fun h => ?_) rfl rfl
    exact h.moved (by simp [hs]) (by simp [hs]) (h.clearing_eq_false (by simp [hs])) (by simp [Group.LinesFit, hs, GroupTimer.isConfirm])

theorem Group.Arrives.trans_select {y : Group} (h : g.Arrives x) (h' : x.Arrives y) (hselect : y.select = x.select) (hx : x.select = g.select) :
    g.Arrives y := .of_select (h'.sound ∘ h.sound) (h'.lock.trans h.lock) (hselect.trans hx)

/-- The filtered level and its filter change alone (R60). -/
theorem Group.sense_arrives {input filtered : Bool} {timer : Option Nat} (hinput : input = true → filtered = true)
    (htimer : timer.isSome = true → filtered = true ∧ input = false) :
    g.Arrives { g with senseInput := input, senseFiltered := filtered, senseTimer := timer } := by
  refine .of_select (fun h => ?_) rfl rfl
  obtain ⟨h1, h2, h3, h4, h5, -⟩ := h
  exact ⟨h1, h2, h3, h4, h5, hinput, htimer⟩

theorem Group.senseHigh_arrives (g : Group) : g.Arrives g.senseHigh := by
  have hrise : g.Arrives { g with senseInput := true, senseFiltered := true, senseTimer := none } :=
    Group.sense_arrives (fun _ => rfl) nofun
  unfold Group.senseHigh
  dsimp only
  split
  · next hs => exact hrise.trans_select (Group.finishMake_arrives hs.2.1) rfl rfl
  · exact hrise

theorem Group.senseLow_arrives (g : Group) : g.Arrives g.senseLow := by
  unfold Group.senseLow
  split
  · refine Group.sense_arrives (g := g) (filtered := g.senseFiltered) nofun fun ht => ⟨?_, rfl⟩
    by_contra hno
    simp [hno] at ht
  · exact .refl g

theorem Group.senseLost_arrives (g : Group) (hs : g.Sound → g.senseInput = false) : g.Arrives g.senseLost := by
  have hfall : g.Arrives { g with senseFiltered := false, senseTimer := none } := by
    refine .of_select (fun h => ?_) rfl rfl
    have hinput := hs h
    obtain ⟨h1, h2, h3, h4, h5, -⟩ := h
    exact ⟨h1, h2, h3, h4, h5, fun hi => by simp [show g.senseInput = true from hi] at hinput, nofun⟩
  unfold Group.senseLost
  dsimp only
  split
  · next hm => exact hfall.trans_select (Group.enterFault_arrives (.inr hm.1)) rfl rfl
  · exact hfall

theorem Kept.refl (G : Scope) (s : State) : Kept G s s := (Local.refl G s).change.kept

theorem execBreakOrder_kept (k : GroupId) (s : State) : ∃ t, execBreakOrder k s = .next t ∧ Kept G s t := by
  unfold execBreakOrder
  split
  · exact ⟨_, rfl, .of_setGroup (Group.takeBreak_arrives _ _)⟩
  · exact ⟨s, rfl, .refl G s⟩

theorem execMakeOrder_kept (k : GroupId) (s : State) : ∃ t, execMakeOrder k s = .next t ∧ Kept G s t := by
  unfold execMakeOrder
  split
  · exact ⟨_, rfl, .of_setGroup (Group.takeMake_arrives _ _ _)⟩
  · exact ⟨s, rfl, .refl G s⟩

theorem execGuardExpiry_kept (k : GroupId) (s : State) : ∃ t, execGuardExpiry k s = .next t ∧ Kept G s t := by
  unfold execGuardExpiry
  split
  · next hs _ => exact ⟨_, rfl, .of_setGroup (Group.finishBreak_arrives (.inl hs))⟩
  · exact ⟨s, rfl, .refl G s⟩

theorem execFaultClearGuardExpiry_kept (k : GroupId) (s : State) : ∃ t, execFaultClearGuardExpiry k s = .next t ∧ Kept G s t := by
  unfold execFaultClearGuardExpiry
  split
  · next hs _ _ => exact ⟨_, rfl, .of_setGroup (Group.finishBreak_arrives (.inr hs))⟩
  · exact ⟨s, rfl, .refl G s⟩

theorem execSettleExpiry_kept (k : GroupId) (s : State) : ∃ t, execSettleExpiry k s = .next t ∧ Kept G s t := by
  unfold execSettleExpiry
  split
  · next hs _ => exact ⟨_, rfl, .of_setGroup (Group.settle_arrives hs)⟩
  · exact ⟨s, rfl, .refl G s⟩

theorem execConfirmExpiry_kept (k : GroupId) (s : State) : ∃ t, execConfirmExpiry k s = .next t ∧ Kept G s t := by
  unfold execConfirmExpiry
  split
  · next hs _ => exact ⟨_, rfl, .of_setGroup (Group.enterFault_arrives (.inl hs))⟩
  · exact ⟨s, rfl, .refl G s⟩

theorem execSenseLoss_kept (k : GroupId) (s : State) : ∃ t, execSenseLoss k s = .next t ∧ Kept G s t := by
  unfold execSenseLoss
  split
  · next ht =>
    refine ⟨_, rfl, .of_setGroup (Group.senseLost_arrives _ fun h => ?_)⟩
    obtain ⟨-, -, -, -, -, -, htimer⟩ := h
    exact (htimer (by simp [ht])).2
  · exact ⟨s, rfl, .refl G s⟩

/-! ### Reports at the bound lock (R67, R71, R74) -/

theorem Group.dropReport_keeps (g : Group) : g.Keeps { g with reports := g.reports.tail } := ⟨fun h => h, rfl, rfl, rfl⟩

theorem Local.dropReport (s : State) (k : GroupId) : Local G s (s.dropReport k) := .of_setGroup (Group.dropReport_keeps _)

/-- The reports of a group stand in for its list; nothing else of any group changes. -/
theorem State.dropReport_keeps (s : State) (k g : GroupId) : (s.group g).Keeps ((s.dropReport k).group g) := by
  rw [State.dropReport, State.group_setGroup]
  split
  · next h => subst h; exact Group.dropReport_keeps _
  · exact .refl _

theorem State.takeRouteClear_change (s : State) (l : LockId) : Change G s (s.takeRouteClear l) := by
  have hfree (hs : (s.lock l).state = .vacating ∨ (s.lock l).state = .faulted) :
      Change G s ((s.setLock l { s.lock l with state := .free, vacatingFrom := none }).grantPass l none) := by
    refine LockOp.change (l := l) (LockOp.then (.setLock_of_flags (by rfl) (by rfl) fun _ ho ht => ?_) (.grantPass _ l none)) ?_
    · have := ho.2 ht
      obtain hs | hs := hs <;> simp [hs] at this
    · rw [State.lock_grantPass_self, State.lock_setLock, if_pos rfl]
      exact .cleared hs
  unfold State.takeRouteClear
  split
  case h_1 hs => exact hfree (.inl hs)
  case h_2 hs => exact hfree (.inr hs)
  all_goals exact (Local.refl G s).change

theorem State.takeRouteMade_change (s : State) (l : LockId) : Change G s (s.takeRouteMade l) := by
  unfold State.takeRouteMade
  dsimp only
  split
  · next w hs hw =>
    have hlock (u : State) (m : Mode) (gen : Word16) : (u.deliverGrant l w m gen none).lock l = u.lock l := by
      rw [State.deliverGrant_frame]
      rfl
    have hflags : (s.lock l).flags.Perm ((w.port, w.blocking) ::
        ({ (s.lock l).grant .exclusive [w.port] with target := none } : LockRec).flags) := LockRec.flags_withoutTarget hw .free none
    have hset : LockOp ((s.lock l).Sound l) l (fun q => (q, true) ∈ [(w.port, w.blocking)]) s
        (s.setLock l { (s.lock l).grant .exclusive [w.port] with target := none }) :=
      .setLock_of_perm _ (by rfl) (fun _ _ => hflags) fun _ _ => nofun
    have hop := hset.deliverGrant w .exclusive (nextGen (s.lock l).gen) none fun _ ho hb => ⟨LockRec.blocks_of_target hw hb, by
      rw [State.lock_setLock, if_pos rfl]
      exact ho.blocks_eq_false hflags⟩
    refine LockOp.change (hop.mono fun q ⟨hq, hne⟩ => hne (by simpa using hq)) ?_
    rw [hlock, State.lock_setLock, if_pos rfl]
    exact .made hs
  · exact (Local.refl G s).change

/-- A lock that a route fault has reached (R74). -/
def LockRec.faulted (lk : LockRec) : LockRec := { lk with state := .faulted, holders := [], vacatingFrom := none, target := none }

/-- A route fault at a bound lock keeps the lock sound, and grants nothing. -/
theorem LockOp.kept_of_faulted (h : LockOp ((s.lock l).Sound l) l (fun _ => False) s t)
    (hlock : (s.lock l).Sound l → t.lock l = (s.lock l).faulted) (hbound : s.BindingsAgree → (s.lock l).group ≠ none) : Kept G s t where
  toKeeps := h.keeps fun hl _ _ => hl l
  locks hb hl k := by
    by_cases hk : k = l
    · subst hk
      exact hlock (hl k) ▸ (hl k).faulted_sound (hbound hb)
    · exact h.other k hk ▸ hl k
  lines _ g hne := absurd (h.group g).select hne
  grants _ hl k := by
    by_cases hk : k = l
    · subst hk
      exact hlock (hl k) ▸ LockRec.grants_of_kept rfl (.of_nil rfl)
    · exact h.other k hk ▸ LockRec.grants_of_kept rfl (.refl _)



theorem State.takeRouteFault_kept (s : State) (l : LockId) (hbound : s.BindingsAgree → (s.lock l).group ≠ none) :
    Kept G s (s.takeRouteFault l) := by
  unfold State.takeRouteFault
  dsimp only
  split
  case h_1 hs =>
    have hnil (h : (s.lock l).Sound l) : (s.lock l).holders = [] ∧ (s.lock l).vacatingFrom = none :=
      ⟨h.holders_eq_nil (by simp [hs]) (by simp [hs]), h.vacatingFrom_eq_none (by simp [hs])⟩
    have hfaulted (h : (s.lock l).Sound l) : ({ s.lock l with state := .faulted, target := none } : LockRec) = (s.lock l).faulted := by
      obtain ⟨h1, h2⟩ := hnil h
      rw [LockRec.faulted, ← h1, ← h2]
    split
    · next w hw =>
      have hflags : (s.lock l).flags.Perm ((w.port, w.blocking) ::
          ({ s.lock l with state := .faulted, target := none } : LockRec).flags) := LockRec.flags_withoutTarget hw .free none
      have hset : LockOp ((s.lock l).Sound l) l (fun q => (q, true) ∈ [(w.port, w.blocking)]) s
          (s.setLock l { s.lock l with state := .faulted, target := none }) :=
        .setLock_of_perm _ (by rfl) (fun _ _ => hflags) fun _ _ => nofun
      unfold State.failTarget
      split
      · next hb =>
        have hop := hset.endStretch w .routeFault fun _ ho => ⟨LockRec.blocks_of_target hw hb, by
          rw [State.lock_setLock, if_pos rfl]
          exact ho.blocks_eq_false hflags⟩
        refine LockOp.kept_of_faulted (hop.mono fun q ⟨hq, hne⟩ => hne ?_) (fun h => ?_) hbound
        · simp only [List.mem_singleton, Prod.mk.injEq] at hq
          exact hq.1
        · rw [State.lock_endStretch, State.lock_setLock, if_pos rfl, hfaulted h]
      · next hb =>
        refine LockOp.kept_of_faulted ((hset.then (.postGuarded _ l w _ none)).mono fun q hq => hb ?_) (fun h => ?_) hbound
        · simp only [List.mem_singleton, Prod.mk.injEq] at hq
          exact hq.2.symm
        · rw [State.lock_postGuarded, State.lock_setLock, if_pos rfl, hfaulted h]
    · next hw =>
      refine LockOp.kept_of_faulted (.setLock_of_flags (by rfl) ?_ fun _ _ => nofun) (fun h => ?_) hbound
      · simp [LockRec.flags, hw]
      · rw [State.lock_setLock, if_pos rfl, hfaulted h]
  case h_2 hs =>
    have hset : LockOp ((s.lock l).Sound l) l (fun _ => False) s (s.setLock l { s.lock l with state := .faulted, holders := [] }) :=
      .setLock_of_flags (by rfl) (by rfl) fun _ ho ht => by
        have := ho.2 ht
        simp [hs] at this
    refine LockOp.kept_of_faulted (hset.then (.postRevoked _ l _ _)) (fun h => ?_) hbound
    have h1 := h.vacatingFrom_eq_none (by simp [hs])
    have h2 := h.target_eq_none (by simp [hs])
    rw [State.lock_postRevoked, State.lock_setLock, if_pos rfl, LockRec.faulted, ← h1, ← h2]
  case h_3 hs =>
    refine LockOp.kept_of_faulted (.setLock_of_flags (by rfl) (by rfl) fun _ ho ht => ?_) (fun h => ?_) hbound
    · have := ho.2 ht
      simp [hs] at this
    · have h1 := h.holders_eq_nil (by simp [hs]) (by simp [hs])
      have h2 := h.target_eq_none (by simp [hs])
      rw [State.lock_setLock, if_pos rfl, LockRec.faulted, ← h1, ← h2]
  all_goals exact .refl G s

/-- A report is dropped and taken at the bound lock, if there is one (R64). -/
theorem Kept.atBoundLock {f : State → LockId → State}
    (h : ∀ u l, (u.group k).lock = some l → Kept G u (f u l)) : Kept G s ((s.dropReport k).atBoundLock k f) := by
  refine (Local.dropReport s k).thenKept (State.dropReport_keeps s k) ?_
  unfold State.atBoundLock
  split
  · next l hl => exact h _ l hl
  · exact .refl G _

theorem execRouteClear_kept (k : GroupId) (s : State) : ∃ t, execRouteClear k s = .next t ∧ Kept G s t := by
  unfold execRouteClear
  split
  · exact ⟨_, rfl, .atBoundLock fun u l _ => (u.takeRouteClear_change l).kept⟩
  · exact ⟨s, rfl, .refl G s⟩

theorem execRouteMade_kept (k : GroupId) (s : State) : ∃ t, execRouteMade k s = .next t ∧ Kept G s t := by
  unfold execRouteMade
  split
  · exact ⟨_, rfl, .atBoundLock fun u l _ => (u.takeRouteMade_change l).kept⟩
  · exact ⟨s, rfl, .refl G s⟩

theorem execRouteFault_kept (k : GroupId) (s : State) : ∃ t, execRouteFault k s = .next t ∧ Kept G s t := by
  unfold execRouteFault
  split
  · exact ⟨_, rfl, .atBoundLock fun u l hl => u.takeRouteFault_kept l fun hb => by simp [(hb k l).mp hl]⟩
  · exact ⟨s, rfl, .refl G s⟩

/-! ### The second stage of RESTART (R25, R52, R82, R159) -/

theorem Group.atRestart_arrives (g : Group) : g.Arrives g.atRestart := by
  have hbreak (hs : g.state = .making ∨ g.state = .made ∨ g.state = .broken) :
      g.Arrives { g with orders := [], state := .breaking, enable := false, timer := .guardTime g.guardUnits.toNat } := by
    refine .of_select (fun h => ?_) rfl rfl
    have hne {st : GroupState} (h1 : st ≠ .making) (h2 : st ≠ .made) (h3 : st ≠ .broken) : g.state ≠ st := by
      obtain hs | hs | hs := hs <;> rw [hs]
      · exact h1.symm
      · exact h2.symm
      · exact h3.symm
    exact h.moved (hne nofun nofun nofun) nofun (h.clearing_eq_false (hne nofun nofun nofun)) (by simp [Group.LinesFit, GroupTimer.isGuard])
  rw [Group.atRestart_eq]
  split
  · next h => exact hbreak (h.imp_right (.imp_right And.left))
  · exact .of_select (fun h => h.with_claims [] g.reports) rfl rfl

theorem Group.select_atRestart (g : Group) : g.atRestart.select = g.select := by
  rw [Group.atRestart_eq]
  split <;> rfl

/-- A lock without entries blocks no port. -/
theorem LockRec.atRestart_blocks (lk : LockRec) (select : GroupId → Port) (q : Port) : (lk.atRestart select).blocks q = false := by
  obtain ⟨-, hqueue, htarget, -⟩ := lk.atRestart_cleared select
  rw [← Bool.not_eq_true, LockRec.blocks_iff]
  simp [LockRec.flags, hqueue, htarget]

/-- The lock table and the route block take the RESTART (R25, R52, R82). -/
theorem State.restartLocks_kept (s : State) : Kept G s s.restartLocks := by
  have hfields (q : Port) : ∃ x, s.restartLocks.engine q = { s.engine q with handed := x } ∧
      ((s.engine q).handed.isSome = true → x.isSome = true) := by
    rw [State.engine_restartLocks]
    split
    · refine ⟨_, rfl, fun hx => ?_⟩
      cases hh : (s.engine q).handed <;> simp_all
    · exact ⟨_, rfl, id⟩
  exact {
    pending := rfl
    sessions := fun hs => hs
    posts := fun hs => hs
    pool := fun _ hs => hs.of_kept (fun _ => rfl) (fun _ => rfl)
      (fun q => by
        obtain ⟨x, hq, -⟩ := hfields q
        rw [hq]
        exact hs.engine_inRange q)
      (fun q => hs.notices_length q) fun q => hs.limit_inRange q
    restart := fun _ hs r hr => by
      obtain ⟨h1, h2, h3⟩ := hs r hr
      obtain ⟨x, hq, -⟩ := hfields r.requester
      rw [hq]
      exact ⟨h1, h2, h3⟩
    stretches := fun _ he hs => by
      have hstretched {q : Port} (hb : s.hasBlockingEntry q = true) : (s.engine q).state = .stretched := by
        obtain ⟨l, hl⟩ := State.hasBlockingEntry_iff.mp hb
        obtain ⟨-, -, -, -, -, -, hlock, -⟩ := he q
        exact hlock.mp (by simp [((hs q).1 l hl).1])
      refine ⟨fun q => ?_, fun q => ⟨fun l hl => ?_, fun hst => .inl ?_⟩⟩
      · rw [State.engine_restartLocks]
        split
        · next hb => exact (he q).hand (hstretched hb) .aborted
        · exact he q
      · rw [State.lock_restartLocks, LockRec.atRestart_blocks] at hl
        cases hl
      · rw [State.engine_restartLocks] at hst ⊢
        split
        · cases (s.engine q).handed <;> rfl
        · next hb =>
          rw [if_neg hb] at hst
          exact ((hs q).2 hst).resolve_right fun hx => hb (State.hasBlockingEntry_iff.mpr hx)
    groups := fun hs g => by
      rw [State.group_restartLocks]
      exact (Group.atRestart_arrives _).sound (hs g)
    bindings := fun _ hb g l => by
      obtain ⟨-, -, -, -, -, -, hgroup⟩ := (s.lock l).atRestart_cleared fun g => (s.group g).select
      rw [State.group_restartLocks, State.lock_restartLocks, (Group.atRestart_arrives _).lock, hgroup]
      exact hb g l
    leases := fun _ _ _ _ hs q hst ho => by
      obtain ⟨x, hq, hx⟩ := hfields q
      rw [hq] at hst ⊢
      obtain ⟨h1, h2, h3⟩ := hs q hst ho
      exact ⟨h1, h2, fun hn => (h3 hn).imp_right hx⟩
    locks := fun _ hs l => by
      rw [State.lock_restartLocks]
      exact (LockRec.Moves.atRestart l _ _).sound (hs l)
    lines := fun _ g hne => by
      rw [State.group_restartLocks] at hne
      exact absurd (Group.select_atRestart _) hne
    grants := fun _ hs l => by
      rw [State.lock_restartLocks]
      exact (LockRec.Moves.atRestart l _ _).grants (hs l) }

theorem execRestartSecondStage_kept (block : RestartBlock) (s : State) : ∃ t, execRestartSecondStage block s = .next t ∧ Kept G s t := by
  unfold execRestartSecondStage
  split
  · next r hr =>
    split
    · refine ⟨_, rfl, ?_⟩
      cases block with
      | session =>
        refine ((Local.restartSessions s).trans (.marked_restart .session hr fun _ q => ?_)).change.kept
        rw [State.session_restartSessions]
        rfl
      | lockAndRoute =>
        exact (Local.marked_restart .lockAndRoute hr nofun).thenKept (fun g => .refl _)
          (State.restartLocks_kept { s with restart := some (r.mark .lockAndRoute) })
      | message => exact ((Local.restartMessages s).trans (.marked_restart .message hr nofun)).change.kept
      | notice => exact ((Local.restartNotices s).trans (.marked_restart .notice hr nofun)).change.kept
    · exact ⟨s, rfl, .refl G s⟩
  · exact ⟨s, rfl, .refl G s⟩

end

end Sys2Proof.Machine
end

section
/-! Every command keeps every invariant, and so does the passing of time: the statements about every step. -/

namespace Sys2Proof.Machine

section
variable {s t : State} {p : Port}

/-! ### Every command -/

/-- What is claimed of a step: the grants while the RESTART is sound, the leases while engines, blocking entries and RESTART are, and
the pool. -/
def State.keptScope (s : State) : Scope := ⟨s.RestartSound, s.EnginesSound ∧ s.StretchesSound ∧ s.RestartSound, s.PoolSound⟩

theorem frame_kept (cmd : HostCommand) (p : Port) (seq : Byte) (s : State) :
    ∃ t, exec (cmd.instr p seq) s = .next t ∧ Kept s.keptScope s t :=
  ⟨_, exec_instr cmd p seq s, (runFrame_change s p seq cmd).kept.mono ⟨fun _ => trivial, fun _ => trivial, fun _ => trivial⟩⟩

/-- A change is what a command keeps. -/
theorem kept_of_change {G : Scope} {o : Host.Outcome State Fault Refusal} (h : ∃ t, o = .next t ∧ Change G s t) (hw : s.keptScope.Within G) :
    ∃ t, o = .next t ∧ Kept s.keptScope s t :=
  have ⟨t, ht, hchange⟩ := h
  ⟨t, ht, hchange.kept.mono hw⟩

theorem Scope.Within.refl (G : Scope) : G.Within G := ⟨id, id, id⟩

/-- Every command but RESET completes and keeps the invariants. -/
theorem exec_kept (c : Instr) (hreset : ∀ as1 as0, c ≠ .reset as1 as0) (s : State) :
    ∃ t, exec c s = .next t ∧ Kept s.keptScope s t := by
  have hchange {o : Host.Outcome State Fault Refusal} (h : ∃ t, o = .next t ∧ Change s.keptScope s t) := kept_of_change h (.refl _)
  cases c with
  | status p seq => exact frame_kept .status p seq s
  | openSession p seq lease priority threshold flags => exact frame_kept (.openSession lease priority threshold flags) p seq s
  | close p seq => exact frame_kept .close p seq s
  | acquire p seq lock mode wait deadline => exact frame_kept (.acquire lock mode wait deadline) p seq s
  | release p seq lock generation => exact frame_kept (.release lock generation) p seq s
  | cancel p seq lock => exact frame_kept (.cancel lock) p seq s
  | downgrade p seq lock generation => exact frame_kept (.downgrade lock generation) p seq s
  | query p seq lock => exact frame_kept (.query lock) p seq s
  | holdings p seq => exact frame_kept .holdings p seq s
  | send p seq dest tag flags payload => exact frame_kept (.send dest tag flags payload) p seq s
  | take p seq => exact frame_kept .take p seq s
  | peek p seq => exact frame_kept .peek p seq s
  | flush p seq => exact frame_kept .flush p seq s
  | takeNotice p seq => exact frame_kept .takeNotice p seq s
  | setLockAttr p seq lock shared hold => exact frame_kept (.setLockAttr lock shared hold) p seq s
  | setPortLimits p seq port cap quota sendCap stretch => exact frame_kept (.setPortLimits port cap quota sendCap stretch) p seq s
  | bindRoute p seq group lock guardTime confirmTime => exact frame_kept (.bindRoute group lock guardTime confirmTime) p seq s
  | unbindRoute p seq group => exact frame_kept (.unbindRoute group) p seq s
  | clearRouteFault p seq group => exact frame_kept (.clearRouteFault group) p seq s
  | forceRelease p seq lock => exact frame_kept (.forceRelease lock) p seq s
  | expel p seq port => exact frame_kept (.expel port) p seq s
  | restart p seq => exact frame_kept .restart p seq s
  | queryRoute p seq group => exact frame_kept (.queryRoute group) p seq s
  | restartSecondStage block => exact execRestartSecondStage_kept block s
  | restartThirdStage order => exact kept_of_change (execRestartThirdStage_change order s) ⟨id, fun ⟨_, _, hr⟩ => hr, id⟩
  | reset as1 as0 => exact absurd rfl (hreset as1 as0)
  | busCondition p event => exact hchange (execBusCondition_change p event s)
  | addressByte p byte => exact hchange (execAddressByte_change p byte s)
  | linkRefusal p bytes => exact hchange (execLinkRefusal_change p bytes s)
  | readTransaction p count nack => exact hchange (execReadTransaction_change p count nack s)
  | busTimeout p => exact hchange (execBusTimeout_change p s)
  | holdLimitExpiry l p => exact hchange (execHoldLimitExpiry_change l p s)
  | deadlineExpiry l p => exact hchange (execDeadlineExpiry_change l p s)
  | stretchLimitExpiry p => exact hchange (execStretchLimitExpiry_change (G := s.keptScope) (fun h => h.1) p)
  | limitClaim p => exact hchange (execLimitClaim_change (G := s.keptScope) (fun ⟨he, hs, _⟩ => ⟨he, hs⟩) p)
  | stretchEnding p => exact hchange (execStretchEnding_change p s)
  | leaseExpiry p => exact hchange (execLeaseExpiry_change p s)
  | teardownHoldings p l => exact hchange (execTeardownHoldings_change p l s)
  | teardownWaits p l => exact hchange (execTeardownWaits_change p l s)
  | teardownFlush p => exact hchange (execTeardownFlush_change p s)
  | teardownPeerEnded p => exact hchange (execTeardownPeerEnded_change p s)
  | teardownEnd p => exact hchange (execTeardownEnd_change p s)
  | newPortLimitsTaken p block => exact hchange (execNewPortLimitsTaken_change p block s)
  | noticePost source => exact hchange (execNoticePost_change source s)
  | breakOrder g => exact execBreakOrder_kept g s
  | makeOrder g => exact execMakeOrder_kept g s
  | guardExpiry g => exact execGuardExpiry_kept g s
  | faultClearGuardExpiry g => exact execFaultClearGuardExpiry_kept g s
  | settleExpiry g => exact execSettleExpiry_kept g s
  | confirmExpiry g => exact execConfirmExpiry_kept g s
  | senseRise g => exact ⟨_, rfl, .of_setGroup (Group.senseHigh_arrives _)⟩
  | senseFall g => exact ⟨_, rfl, .of_setGroup (Group.senseLow_arrives _)⟩
  | senseLoss g => exact execSenseLoss_kept g s
  | routeClear g => exact execRouteClear_kept g s
  | routeMade g => exact execRouteMade_kept g s
  | routeFault g => exact execRouteFault_kept g s

theorem Instr.reset_or (c : Instr) : (∃ as1 as0, c = .reset as1 as0) ∨ ∀ as1 as0, c ≠ .reset as1 as0 := by
  by_cases h : ∃ as1 as0, c = .reset as1 as0
  · exact .inl h
  · exact .inr fun as1 as0 hc => h ⟨as1, as0, hc⟩

/-- Settles O5: RESET leaves the queue alone, and so does every change. -/
theorem everyCommandCompletesAndKeepsTheQueue : Obligations.EveryCommandCompletesAndKeepsTheQueue := by
  intro c s
  obtain ⟨as1, as0, rfl⟩ | hreset := Instr.reset_or c
  · exact ⟨_, rfl, rfl⟩
  · obtain ⟨t, ht, hkept⟩ := exec_kept c hreset s
    exact ⟨t, ht, hkept.pending⟩

/-! ### A tick -/

/-- The timers of a group count, each in its own state (R59, R60). -/
theorem Group.Sound.counted {g : Group} (h : g.Sound) {timer : GroupTimer} {sense : Option Nat} (hstopped : timer = .stopped ↔ g.timer = .stopped)
    (hguard : timer.isGuard = g.timer.isGuard) (hsettle : timer.isSettle = g.timer.isSettle)
    (hconfirm : timer.isConfirm = g.timer.isConfirm) (hsense : sense.isSome = g.senseTimer.isSome) :
    ({ g with timer := timer, senseTimer := sense } : Group).Sound := by
  simp only [Group.Sound, Group.LinesFit, hstopped, hguard, hsettle, hconfirm, hsense] at h ⊢
  exact h

theorem Group.tickUnit_arrives (g : Group) : g.Arrives g.tickUnit := by
  refine .of_select (fun h => ?_) rfl rfl
  unfold Group.tickUnit
  cases ht : g.timer <;> exact h.counted (by simp [ht]) (by simp [ht, GroupTimer.isGuard]) (by simp [ht, GroupTimer.isSettle])
    (by simp [ht, GroupTimer.isConfirm]) (by simp)

theorem Group.tickMs_arrives (g : Group) : g.Arrives g.tickMs := by
  refine .of_select (fun h => ?_) rfl rfl
  unfold Group.tickMs
  cases ht : g.timer <;> exact h.counted (by simp [ht]) (by simp [ht, GroupTimer.isGuard]) (by simp [ht, GroupTimer.isSettle])
    (by simp [ht, GroupTimer.isConfirm]) rfl

theorem State.tick_arrives (s : State) (g : GroupId) :
    (s.group g).Arrives (s.tick.group g) ∧ (s.tick.group g).select = (s.group g).select := by
  rw [State.group_tick]
  split
  · exact ⟨Group.tickUnit_arrives _, rfl⟩
  · exact ⟨(Group.tickUnit_arrives _).trans_select (Group.tickMs_arrives _) rfl rfl, rfl⟩

/-- Only timers of an engine count, and only the bus-timeout timer can start (R187, R191). -/
theorem State.engine_tick_eq (s : State) (p : Port) :
    ∃ timer bus, s.tick.engine p = { s.engine p with stretchTimer := timer, busTimer := bus } ∧
      (timer.isSome = true → (s.engine p).stretchTimer.isSome = true) ∧ ((s.engine p).Sound → bus.isSome = true →
        (s.engine p).state = .receiving ∨ (s.engine p).state = .sending ∨ (s.engine p).state = .ignoring) := by
  rw [State.engine_tick]
  split
  · refine ⟨_, _, rfl, id, fun h => ?_⟩
    obtain ⟨-, -, -, -, -, -, -, -, -, -, -, hbus⟩ := h
    exact hbus
  · refine ⟨_, _, rfl, by simp, fun _ => ?_⟩
    cases (s.engine p).state <;> simp

theorem countDown_le (w : Word16) : (countDown w).toNat ≤ w.toNat ∧ w.toNat ≤ (countDown w).toNat + 1 := by
  unfold countDown
  split
  · next h => simp [h]
  · next h =>
    have hpos : 1 ≤ w.toNat := by
      by_contra hz
      exact h (BitVec.eq_of_toNat_eq (by simp; omega))
    bv_omega

/-- A millisecond passes for a session (R91). -/
theorem Session.Sound.tickMs {x : Session} (h : x.Sound) : x.tickMs.Sound := by
  unfold Session.tickMs
  split
  · next ho =>
    obtain ⟨h1, h2, h3, h4, h5, h6⟩ := h
    exact ⟨h1, (countDown_le x.lease).1.trans h2, h3, h4, h5, fun he => absurd (ho.symm.trans he) nofun⟩
  · exact h

theorem State.session_state_tick (s : State) (p : Port) : (s.tick.session p).state = (s.session p).state := by
  rw [State.session_tick, Session.tickMs]
  split
  · rfl
  · split <;> rfl

/-- A port that is STRETCHED while no claim of the part is due waits for its stretch timer, which has not run out (R188). -/
theorem State.LeasesOutlastStretches.timer_runs (h : s.LeasesOutlastStretches) (hc : s.ownClaims = [])
    (hs : (s.engine p).state = .stretched) (ho : (s.session p).state = .opened) :
    ∃ n, (s.engine p).stretchTimer = some n ∧ 1 ≤ n ∧ 50 + n ≤ (s.session p).lease.toNat := by
  obtain ⟨-, hlease, hstopped⟩ := h p hs ho
  have hnot (c : Instr) : ¬ s.Due c := by
    rw [← State.mem_ownClaims, hc]
    exact List.not_mem_nil
  cases ht : (s.engine p).stretchTimer with
  | none =>
    obtain hx | hx := hstopped ht
    · exact absurd (Option.isSome_iff_ne_none.mp hx) (hnot (.limitClaim p))
    · exact absurd ⟨hs, Option.isSome_iff_ne_none.mp hx⟩ (hnot (.stretchEnding p))
  | some n =>
    refine ⟨n, rfl, ?_, hlease n ht⟩
    by_contra hn
    obtain rfl : n = 0 := by omega
    exact hnot (.stretchLimitExpiry p) ⟨hs, ht⟩

theorem State.tick_leases (hc : s.ownClaims = []) (h : s.LeasesOutlastStretches) : s.tick.LeasesOutlastStretches := by
  intro q hst ho
  obtain ⟨timer, bus, hengine, -⟩ := s.engine_tick_eq q
  rw [hengine] at hst
  rw [State.session_state_tick] at ho
  obtain ⟨n, ht, hn, hlease⟩ := h.timer_runs hc hst ho
  rw [State.engine_tick, State.session_tick]
  split
  · rw [ht]
    exact ⟨by omega, fun m hm => by obtain rfl := Option.some.inj hm; exact hlease, nofun⟩
  · have hdown : (s.session q).tickMs.lease = countDown (s.session q).lease := by simp [Session.tickMs, ho]
    have hle := (countDown_le (s.session q).lease).2
    have htimer : ((s.engine q).tickMs (Config.hostScl s.sclSample q)).stretchTimer = some (n - 1) := by simp [Engine.tickMs, ht]
    rw [hdown, htimer]
    exact ⟨by omega, fun m hm => by obtain rfl := Option.some.inj hm; omega, nofun⟩

/-- 10 µs pass when the part has nothing to take, and every invariant is kept. -/
theorem State.tick_kept (hc : s.ownClaims = []) : Kept s.keptScope s s.tick := by
  have hmoves (l : LockId) : (s.lock l).Moves l (s.tick.lock l) := by
    rw [State.lock_tick]
    split
    · exact .refl l _
    · exact .tickMs l _
  have hbinding (l : LockId) : (s.tick.lock l).group = (s.lock l).group := by
    rw [State.lock_tick]
    split <;> rfl
  have hblocks (l : LockId) (q : Port) : (s.tick.lock l).blocks q = (s.lock l).blocks q := by
    rw [State.lock_tick]
    split
    · rfl
    · rw [Bool.eq_iff_iff, LockRec.blocks_iff, LockRec.blocks_iff]
      simp [LockRec.flags, LockRec.tickMs, Function.comp_def]
  have hsession (q : Port) : (s.tick.session q).state = (s.session q).state := s.session_state_tick q
  exact {
    pending := by rw [State.tick_frame]
    sessions := fun hs q => by
      rw [State.session_tick]
      split
      · exact hs q
      · exact (hs q).tickMs
    posts := fun hs x hx => by
      rw [hsession]
      rw [State.tick_frame] at hx
      exact hs x hx
    pool := fun _ hs => hs.of_kept (fun c => by rw [State.tick_frame]; rfl) (fun q => by rw [State.tick_frame]; rfl)
      (fun q => by
        obtain ⟨timer, bus, hq, -⟩ := s.engine_tick_eq q
        rw [hq]
        exact hs.engine_inRange q)
      (fun q => by rw [State.tick_frame]; exact hs.notices_length q) fun q => by rw [State.tick_frame]; exact hs.limit_inRange q
    restart := fun _ hs r hr => by
      rw [State.tick_frame] at hr
      obtain ⟨h1, h2, h3⟩ := hs r hr
      obtain ⟨timer, bus, hq, -⟩ := s.engine_tick_eq r.requester
      rw [hq]
      exact ⟨h1, h2, fun ht q => (hsession q).trans (h3 ht q)⟩
    stretches := fun _ he hs => by
      refine ⟨fun q => ?_, fun q => ?_⟩
      · obtain ⟨timer, bus, hq, htimer, hbus⟩ := s.engine_tick_eq q
        have hbus' := hbus (he q)
        obtain ⟨h1, h2, h3, h4, h5, h6, h7, h8, h9, h10, h11, -⟩ := he q
        rw [hq]
        exact ⟨h1, h2, h3, h4, h5, h6, h7, h8 ∘ htimer, h9, h10, h11, hbus'⟩
      · obtain ⟨timer, bus, hq, -⟩ := s.engine_tick_eq q
        simp only [hq, hblocks]
        exact hs q
    groups := fun hs g => (s.tick_arrives g).1.sound (hs g)
    bindings := fun _ hb g l => by rw [(s.tick_arrives g).1.lock, hbinding]; exact hb g l
    leases := fun _ _ _ _ => State.tick_leases hc
    locks := fun _ hs l => (hmoves l).sound (hs l)
    lines := fun _ g hne => absurd (s.tick_arrives g).2 hne
    grants := fun _ hs l => (hmoves l).grants (hs l) }

/-! ### Every step -/

/-- A step is a RESET, or it keeps the invariants of the state with the queue it leaves. -/
theorem step_kept (h : step s = .next t) :
    s.resetNext = true ∧ t.Fresh ∨ ∃ q, Kept ({ s with pending := q } : State).keptScope { s with pending := q } t := by
  have hexec {c : Instr} {q : List Instr} (hc : exec c { s with pending := q } = .next t) (hreset : ∀ as1 as0, c ≠ .reset as1 as0) :
      Kept ({ s with pending := q } : State).keptScope { s with pending := q } t := by
    obtain ⟨u, hu, hkept⟩ := exec_kept c hreset { s with pending := q }
    obtain rfl := Host.Outcome.next.inj (hu.symm.trans hc)
    exact hkept
  cases hp : s.pending with
  | cons c rest =>
    simp only [step, hp] at h
    obtain ⟨as1, as0, rfl⟩ | hreset := Instr.reset_or c
    · exact .inl ⟨by simp [State.resetNext, hp], fresh_of_exec_reset h⟩
    · exact .inr ⟨rest, hexec h hreset⟩
  | nil =>
    refine .inr ⟨s.pending, ?_⟩
    cases hc : s.ownClaims with
    | nil =>
      rw [step_of_no_claim hp hc] at h
      obtain rfl := Host.Outcome.next.inj h
      exact State.tick_kept hc
    | cons c cs =>
      rw [step_of_claim hp hc] at h
      have hdue : s.Due c := State.mem_ownClaims.mp (hc ▸ List.mem_cons_self)
      refine hexec h fun as1 as0 hreset => ?_
      subst hreset
      exact hdue

/-- Settles O52: one operation on a lock record after the other keeps it sound. -/
theorem lockRecordsStaySound : Obligations.LockRecordsStaySound := by
  intro s t hl hb h
  obtain ⟨-, hfresh⟩ | ⟨q, hkept⟩ := step_kept h
  · exact hfresh.locksSound
  · exact hkept.locks hb hl

/-- Settles O53: a pass grants at most once, and no command lets two passes of one lock grant. -/
theorem generationStepsOnlyAtGrants : Obligations.GenerationStepsOnlyAtGrants := by
  intro s t hl hr hreset h
  obtain ⟨hno, -⟩ | ⟨q, hkept⟩ := step_kept h
  · rw [hreset] at hno
    cases hno
  · exact hkept.grants hr hl

/-- Settles O54: only a make order, a binding and an unbinding set the select value, each at a group whose enable line is deasserted. -/
theorem routeOutputsStaySafe : Obligations.RouteOutputsStaySafe := by
  intro s t hg h
  obtain ⟨hreset, hfresh⟩ | ⟨q, hkept⟩ := step_kept h
  · refine ⟨hfresh.groupsSound, fun _ => hfresh.bindingsAgree, fun hno => ?_⟩
    rw [hreset] at hno
    cases hno
  · exact ⟨hkept.groups hg, hkept.bindings hg, fun _ => hkept.lines hg⟩

/-- Settles O55: SEND, TAKE and the flush keep as many references as queues name a cell. -/
theorem poolAndQueuesStaySound : Obligations.PoolAndQueuesStaySound := by
  intro s t hp h
  obtain ⟨-, hfresh⟩ | ⟨q, hkept⟩ := step_kept h
  · exact hfresh.poolSound
  · exact hkept.pool hp hp

/-- Settles O56: a session moves along its states only, and the guarded posts to it are discarded when it is CLOSED. -/
theorem sessionRecordsStaySound : Obligations.SessionRecordsStaySound := by
  refine ⟨fun s t hs h => ?_, fun s t hs h => ?_⟩
  · obtain ⟨-, hfresh⟩ | ⟨q, hkept⟩ := step_kept h
    · exact hfresh.sessionsSound
    · exact hkept.sessions hs
  · obtain ⟨-, hfresh⟩ | ⟨q, hkept⟩ := step_kept h
    · exact hfresh.guardedPostsFit
    · exact hkept.posts hs

/-- Settles O57: an operation on a lock hands an ending to each port whose blocking entry it takes away. -/
theorem stretchedEnginesHaveABlockingEntry : Obligations.StretchedEnginesHaveABlockingEntry := by
  intro s t hl he hs h
  obtain ⟨-, hfresh⟩ | ⟨q, hkept⟩ := step_kept h
  · exact ⟨hfresh.enginesSound, hfresh.stretchesSound⟩
  · exact hkept.stretches hl he hs

/-- Settles O58: the requester waits for the stages alone, and no frame is carried out that could open a session. -/
theorem restartKeepsEverySessionClosed : Obligations.RestartKeepsEverySessionClosed := by
  intro s t hr h
  obtain ⟨-, hfresh⟩ | ⟨q, hkept⟩ := step_kept h
  · exact hfresh.restartSound
  · exact hkept.restart hr hr

/-- Settles O59: a stretch begins with a renewed lease, and both timers count alike; so the lease never reaches zero in a stretch. -/
theorem leasesOutlastStretches : Obligations.LeasesOutlastStretches := by
  refine ⟨fun s t he hst hp hs hr hl h => ?_, fun s p hl hst => ?_⟩
  · obtain ⟨-, hfresh⟩ | ⟨q, hkept⟩ := step_kept h
    · exact hfresh.leasesOutlastStretches
    · exact hkept.leases ⟨he, hst, hr⟩ hp hp hs hl
  · change execLeaseExpiry p s = _
    refine if_neg fun ⟨ho, hzero⟩ => ?_
    obtain ⟨hlease, -⟩ := hl p hst ho
    simp [hzero] at hlease

end

end Sys2Proof.Machine
end
